-- ==== Sys2Proof/Word.lean ====
section
/-!
DEFINITION. The two widths of the core (spec rules R5, R7): a byte is the addressable unit and the width of
the eight general registers, a word is the width of SP, PC, the paired views and every address.
-/
namespace Sys2Proof

/-- A byte (`u8` of rule R7). -/
abbrev Byte := BitVec 8

/-- A word (`u16` of rule R7): SP, PC, a pair or an address. Arithmetic on it wraps modulo 65536 (R28, R190). -/
abbrev Word := BitVec 16

end Sys2Proof
end

