-- ==== Sys2Proof/Config.lean ====
section
/-!
DEFINITION. The parameters the spec leaves to the implementation (rule R6) that act while the machine runs,
as plain data: `ROM_WRITABLE`, `DIV_WRITE_RESETS` and `CYCLES` (one record, `Config`) and `ENV` (the moves of
the environment, `EnvMove`). The launch parameters (`ROM_IMAGE`, `MEM_INIT`, `IO_RESET_IMAGE`, `IE_RESET`) are
the fields of `Launch` in Machine/HostPort.lean, and `END_OF_RUN` is an argument of Safety.lean.
Every parameter is an argument of the model, carried by the state: a claim about every state is a claim about
every value of these parameters (log entry 3).
-/
namespace Sys2Proof

/-- One departure from the default cycle table of rule R350: the instruction whose number in
spec/opcode_table.json is `op` (`match`: the opcode byte, or 0xCB and the second byte as one 16-bit number),
taken or not taken, costs `beyondFirst + 1` M-cycles: every completed step returns a positive number (R271), so no
other number can be written. -/
structure CycleOverride where
  op : Nat
  taken : Bool
  beyondFirst : Nat
  deriving DecidableEq, Repr

/-- The M-cycles an override gives. -/
def CycleOverride.cycles (o : CycleOverride) : Nat := o.beyondFirst + 1

/-- The parameters of rule R6 that the machine reads while it runs. `CYCLES` is a function of (opcode, taken?)
on a finite domain with positive values (R271): any such function is the default table of rule R350 with a list of
overrides, the first matching entry deciding. -/
structure Config where
  /-- `ROM_WRITABLE` (R67): an instruction store to 0x0000 to 0x7FFF lands. -/
  romWritable : Bool
  /-- `DIV_WRITE_RESETS` (R306): an instruction store to 0xFF04 clears DIV and its accumulator. -/
  divWriteResets : Bool
  /-- `CYCLES` (R350), as departures from the default table. -/
  cycleOverrides : List CycleOverride
  deriving DecidableEq, Repr

/-- The spec's defaults (rule R6): ROM stores are dropped, a DIV store resets, the table of R350 as it is. -/
def Config.default : Config :=
  { romWritable := false, divWriteResets := true, cycleOverrides := [] }

/-- What the environment may do between two steps (rule R92): raise interrupt requests, or change a byte of the
I/O block. A debugger's changes are moves of the host (`HostMove` in Machine/HostPort.lean). -/
inductive EnvMove where
  /-- `IF <- IF | m`, of which only the bits of `m & 0x1B` count: VBlank, LCD/STAT, Serial, Joypad. -/
  | raise (m : Byte)
  /-- The byte at 0xFF00 + `offset` becomes `v`, for "any I/O byte other than DIV, TIMA, TMA, TAC" (log entry 4).
  An offset of 0x80 or more, or that of one of the four, is no move of the environment and does nothing. -/
  | setIo (offset : Nat) (v : Byte)
  deriving DecidableEq, Repr

end Sys2Proof
end

