-- ==== Sys2Proof/WellFormed.lean ====
section
/-!
DEFINITION. Well-formedness of an instruction. Operand bytes and words have exactly the widths the formats
give them (rule R100), so one check is left: the prefix byte 0xCB "is not an instruction by itself" (rule R119).
-/
namespace Sys2Proof

/-- The 11 rows of format `ILLEGAL` (rule R117): a byte with no behaviour, whose execution raises
`UndefinedOpcode` (rule R280). -/
def Instr.isIllegal : Instr → Bool
  | .illegal_D3 | .illegal_DB | .illegal_DD | .illegal_E3 | .illegal_E4 | .illegal_EB
  | .illegal_EC | .illegal_ED | .illegal_F4 | .illegal_FC | .illegal_FD => true
  | _ => false

/-- An instruction that only sets PC: JP and JR, with a condition or without (R241 to R245). -/
def Instr.isJump : Instr → Bool
  | .jp_nn _ | .jp_NZ_nn _ | .jp_Z_nn _ | .jp_NC_nn _ | .jp_C_nn _ | .jp_HL
  | .jr_e _ | .jr_NZ_e _ | .jr_Z_e _ | .jr_NC_e _ | .jr_C_e _ => true
  | _ => false

/-- Rule R119: the prefix and the second byte are one instruction of length 2, so the prefix row alone is no
whole instruction. Every other row is one; the 11 undefined bytes stand for the decode error they raise. -/
def Instr.wellFormed (i : Instr) : Bool := decide (i ≠ .cbPrefix)

end Sys2Proof
end

