-- ==== Sys2Proof/Machine/Memory.lean ====
section
/-!
DEFINITION. The one address space (rules R60 to R64): which region an address lies in, which backing byte it
names, and the memory that holds the backing bytes. Six bus bytes (DIV, TIMA, TMA, TAC, IF, IE) are registers
of State with fields of their own; every other backing byte is in the memory list. Echo addresses have no
bytes: they name the byte 0x2000 below (R63).
-/
namespace Sys2Proof.Machine

/-- The twelve regions of the address map (R60), in address order. -/
inductive Region where
  | rom0 | rom1 | vram | eram | wram0 | wram1 | echo | oam | gap | io | hram | ie
  deriving DecidableEq, Repr

/-- The region an address lies in (R60). Total and pure: every address has exactly one (R64). -/
def regionOf (addr : Word) : Region :=
  let a := addr.toNat
  if a ≤ 0x3FFF then .rom0
  else if a ≤ 0x7FFF then .rom1
  else if a ≤ 0x9FFF then .vram
  else if a ≤ 0xBFFF then .eram
  else if a ≤ 0xCFFF then .wram0
  else if a ≤ 0xDFFF then .wram1
  else if a ≤ 0xFDFF then .echo
  else if a ≤ 0xFE9F then .oam
  else if a ≤ 0xFEFF then .gap
  else if a ≤ 0xFF7F then .io
  else if a ≤ 0xFFFE then .hram
  else .ie

/-- The address whose own byte `addr` names: itself, but 0x2000 lower for an echo address (R63). -/
def backing (addr : Word) : Word :=
  if regionOf addr = .echo then addr - 0x2000 else addr

/-- Whether an address is a ROM address, 0x0000 to 0x7FFF (R65). -/
def isRom (addr : Word) : Bool := decide (regionOf addr = .rom0 ∨ regionOf addr = .rom1)

/-- Where the byte an address names is kept: in a register of State (R30) or in memory, under its backing
address. -/
inductive Home where
  | div | tima | tma | tac | iflag | ie
  | cell (key : Nat)
  deriving DecidableEq, Repr

/-- The home of an address's byte (R30, R60). -/
def homeOf (addr : Word) : Home :=
  let a := (backing addr).toNat
  if a = 0xFF04 then .div
  else if a = 0xFF05 then .tima
  else if a = 0xFF06 then .tma
  else if a = 0xFF07 then .tac
  else if a = 0xFF0F then .iflag
  else if a = 0xFFFF then .ie
  else .cell a

/-- The bytes of the I/O block, other than the five registers of R30, that rule R334 names in the image it
suggests for `IO_RESET_IMAGE` (log entry 2). -/
def ioResetImage : List Host.Cell :=
  [(0xFF00, 0xCF), (0xFF01, 0x00), (0xFF02, 0x7E), (0xFF10, 0x80), (0xFF11, 0xBF), (0xFF12, 0xF3),
   (0xFF13, 0xFF), (0xFF14, 0xBF), (0xFF16, 0x3F), (0xFF17, 0x00), (0xFF18, 0xFF), (0xFF19, 0xBF)]
  ++ [(0xFF1A, 0x7F), (0xFF1B, 0xFF), (0xFF1C, 0x9F), (0xFF1D, 0xFF), (0xFF1E, 0xBF), (0xFF20, 0xFF),
   (0xFF21, 0x00), (0xFF22, 0x00), (0xFF23, 0xBF), (0xFF24, 0x77), (0xFF25, 0xF3), (0xFF26, 0xF1)]
  ++ [(0xFF40, 0x91), (0xFF41, 0x85), (0xFF42, 0x00), (0xFF43, 0x00), (0xFF44, 0x00), (0xFF45, 0x00),
   (0xFF46, 0xFF), (0xFF47, 0xFC), (0xFF48, 0xFF), (0xFF49, 0xFF), (0xFF4A, 0x00), (0xFF4B, 0x00)]

/-- What a backing address that memory does not list reads as: the suggested image of R334 in the I/O block,
0x00 elsewhere. The spec leaves both open (R334, R335): log entries 1 and 2. -/
def unlistedByte (a : Nat) : Byte :=
  if 0xFF00 ≤ a ∧ a ≤ 0xFF7F then (ioResetImage.lookup a).getD 0 else 0

/-- The backing bytes that differ from `unlistedByte`: address and byte, addresses strictly rising. -/
abbrev Memory := List Host.Cell

/-- Whether a number is the backing address of a byte that memory keeps: below 0x10000, no echo address and
none of the six bus registers. -/
def isCellKey (a : Nat) : Bool :=
  decide (a < 0x10000) && decide (homeOf (BitVec.ofNat 16 a) = .cell a)

/-- The canonical form: addresses strictly rising, every address one that memory keeps, and no entry equal to
what an unlisted address reads as. -/
abbrev Memory.wf (m : Memory) : Prop :=
  m.Pairwise (fun x y => x.1 < y.1) ∧ ∀ c ∈ m, isCellKey c.1 = true ∧ c.2 ≠ unlistedByte c.1

/-- The byte at a backing address. -/
def Memory.read : Memory → Nat → Byte
  | [], a => unlistedByte a
  | (k, v) :: m, a => if k = a then v else Memory.read m a

/-- The memory with the byte at a backing address replaced, in canonical form. -/
def Memory.write : Memory → Nat → Byte → Memory
  | [], a, v => if v = unlistedByte a then [] else [(a, v)]
  | (k, w) :: m, a, v =>
    if a < k then (if v = unlistedByte a then (k, w) :: m else (a, v) :: (k, w) :: m)
    else if a = k then (if v = unlistedByte a then m else (a, v) :: m)
    else (k, w) :: Memory.write m a v

end Sys2Proof.Machine
end

