-- ==== Sys2Proof/Machine/State.lean ====
section
/-!
DEFINITION. The state of the machine (rules R20 to R45), the reasons a step can stop, and the state after
reset (R50, R330).
-/
namespace Sys2Proof.Machine

/-- The two kinds of decode error (R282): "Two error kinds only". -/
inductive DecodeFault where
  /-- A first byte of the 11 of rule R117 (R280). -/
  | undefinedOpcode
  /-- A second byte with no entry in the CB map (R281): cannot occur, all 256 are defined. -/
  | undefinedExtendedOpcode
  deriving DecidableEq, Repr

/-- The record a decode error leaves (R44): its kind, the address of the instruction's first byte and the
opcode byte. -/
structure FaultRecord where
  kind : DecodeFault
  pc : Word
  op : Byte
  deriving DecidableEq, Repr

/-- `run_state` with its `fault` record (R44). Only RUNNING has a next step (R272). -/
inductive RunState where
  | running
  | faulted (record : FaultRecord)
  | stopped
  deriving DecidableEq, Repr

/-- Why `step` has no next state: in both cases the spec has no step there (R272, "stuck"). No instruction's
meaning raises one. -/
inductive Fault where
  /-- `step` in the state FAULTED, which a decode error entered (R280). Safe: the spec enables no step. -/
  | steppedWhileFaulted
  /-- `step` in the state STOPPED, which STOP entered (R262). Safe: the spec enables no step. -/
  | steppedWhileStopped
  deriving DecidableEq, Repr

/-- Why an instruction is refused. No arm of `exec` uses it: every instruction has its meaning. -/
inductive Refusal where
  /-- An instruction that has no meaning in the model yet, by its mnemonic in spec/opcode_table.json. Safe. -/
  | notModelled (mnemonic : String)
  deriving DecidableEq, Repr

/-- The state of the core (R20), with the parameters of rule R6 that a step reads and the `cycles` port of
rule R90. -/
structure State where
  /-- The accumulator (R21). -/
  a : Byte
  /-- The flag byte: Z, N, H, C in bits 7 to 4; bits 3 to 0 do not exist and are 0 (R23, R25). -/
  f : Byte
  b : Byte
  c : Byte
  d : Byte
  e : Byte
  h : Byte
  l : Byte
  /-- The stack pointer (R24). -/
  sp : Word
  /-- Between steps, the address of the next opcode byte (R28). -/
  pc : Word
  /-- The interrupt master enable (R38). -/
  ime : Bool
  /-- The enable latch that EI sets (R39). -/
  eiPending : Bool
  /-- HALT's waiting state (R40). -/
  halted : Bool
  /-- The next opcode fetch does not advance PC (R41). -/
  haltBug : Bool
  /-- M-cycles since DIV last rose (R42). -/
  divCounter : Nat
  /-- M-cycles since TIMA last rose, counted while the timer is enabled (R43). -/
  timaCounter : Nat
  /-- The divider at 0xFF04 (R31). -/
  div : Byte
  /-- The timer counter at 0xFF05 (R32). -/
  tima : Byte
  /-- The timer modulo at 0xFF06 (R33). -/
  tma : Byte
  /-- The timer control at 0xFF07 (R34). -/
  tac : Byte
  /-- IF, the pending requests, at 0xFF0F (R35). -/
  iflag : Byte
  /-- IE, the per-source enables, at 0xFFFF (R36). -/
  ie : Byte
  /-- Every other byte of the bus, under its backing address (R60). -/
  mem : List Host.Cell
  /-- RUNNING, FAULTED with its record, or STOPPED (R44). -/
  runState : RunState
  /-- The `cycles` port (R90): the M-cycles the last step or meaning consumed, 0 after a decode error. -/
  cycles : Nat
  /-- The parameters `ROM_WRITABLE`, `DIV_WRITE_RESETS` and `CYCLES` (R6). No step changes it. -/
  cfg : Config
  /-- The parameter `ENV` (R6, R92): the environment's moves before the next step, before the one after it,
  and so on. -/
  env : List (List EnvMove)
  deriving DecidableEq, Repr

/-- The `fault` port (R90): the record of a decode error. -/
def State.fault (s : State) : Option FaultRecord :=
  match s.runState with
  | .faulted r => some r
  | _ => none

/-- The machine after reset (R50, R330). The general registers, SP and PC, the hidden state and IE are the
spec's values. DIV, TIMA, TMA, TAC and IF are those of the image rule R334 suggests (log entry 2); memory lists
nothing, so it reads as `unlistedByte` (log entries 1 and 2); the parameters are at their defaults (log entry
3), the environment makes no move (log entry 4), and no step has reported its cycles (log entry 10). -/
def State.reset : State :=
  { a := 0x01, f := 0xB0, b := 0x00, c := 0x13, d := 0x00, e := 0xD8, h := 0x01, l := 0x4D
    sp := 0xFFFE, pc := 0x0100
    ime := false, eiPending := false, halted := false, haltBug := false
    divCounter := 0, timaCounter := 0
    div := 0xAB, tima := 0x00, tma := 0x00, tac := 0xF8, iflag := 0xE1, ie := 0x00
    mem := []
    runState := .running
    cycles := 0
    cfg := Config.default
    env := [] }

end Sys2Proof.Machine
end

