-- ==== Sys2Proof/Machine/Flags.lean ====
section
/-!
DEFINITION. Every flag computation the spec gives, as functions on bytes and words: the flag laws of rule R14,
the accumulator operations (R170 to R177), INC and DEC (R180 to R183), DAA (R185), the 16-bit additions (R163,
R200, R203), the rotates and shifts (R210 to R222) and BIT (R225). Results are computed as exact integers and
reduced at the end (R190).
-/
namespace Sys2Proof.Machine

/-- The four flags (R25). -/
structure Flags where
  z : Bool
  n : Bool
  h : Bool
  c : Bool
  deriving DecidableEq, Repr

/-- The flags of a flag byte: Z bit 7, N bit 6, H bit 5, C bit 4 (R25). -/
def Flags.ofByte (f : Byte) : Flags :=
  { z := f.getLsbD 7, n := f.getLsbD 6, h := f.getLsbD 5, c := f.getLsbD 4 }

/-- The flag byte of four flags, its low nibble 0 (R23, R25). -/
def Flags.toByte (fl : Flags) : Byte :=
  (if fl.z then 0x80 else 0) ||| (if fl.n then 0x40 else 0)
    ||| (if fl.h then 0x20 else 0) ||| (if fl.c then 0x10 else 0)

/-- The flags of a state. -/
def State.flags (s : State) : Flags := Flags.ofByte s.f

/-- The state with bits 7 to 4 of F set to the four flags (R23: an instruction "sets or clears individual flag
bits 7 to 4 only"). -/
def State.setFlags (s : State) (fl : Flags) : State :=
  { s with f := fl.toByte ||| (s.f &&& 0x0F) }

/-- A carry bit as a number. -/
def carryIn (c : Bool) : Nat := if c then 1 else 0

/-- `CarryAdd8` of rule R14. -/
def carryAdd8 (a b : Byte) (c : Bool) : Bool := decide (a.toNat + b.toNat + carryIn c > 0xFF)

/-- `HalfAdd8` of rule R14. -/
def halfAdd8 (a b : Byte) (c : Bool) : Bool :=
  decide ((a &&& 0xF).toNat + (b &&& 0xF).toNat + carryIn c > 0xF)

/-- `BorrowSub8` of rule R14. -/
def borrowSub8 (a b : Byte) (c : Bool) : Bool := decide (b.toNat + carryIn c > a.toNat)

/-- `HalfSub8` of rule R14. -/
def halfSub8 (a b : Byte) (c : Bool) : Bool :=
  decide ((b &&& 0xF).toNat + carryIn c > (a &&& 0xF).toNat)

/-- `CarryAdd16` of rule R14. -/
def carryAdd16 (x y : Word) : Bool := decide (x.toNat + y.toNat > 0xFFFF)

/-- `HalfAdd16` of rule R14. -/
def halfAdd16 (x y : Word) : Bool :=
  decide ((x &&& 0xFFF).toNat + (y &&& 0xFFF).toNat > 0xFFF)

/-- `sext_16` of rule R8. -/
def sext16 (b : Byte) : Word := b.signExtend 16

/-- The eight accumulator operations, in the order of the selector `y` (R110). -/
inductive AluOp where
  | add | adc | sub | sbc | and | xor | or | cp
  deriving DecidableEq, Repr

/-- The operation the 3-bit selector names (R110). -/
def AluOp.ofCode : Nat → AluOp
  | 0 => .add
  | 1 => .adc
  | 2 => .sub
  | 3 => .sbc
  | 4 => .and
  | 5 => .xor
  | 6 => .or
  | _ => .cp

/-- `(a + x + c) mod 256` with the flags of ADD and ADC (R170, R171). -/
def addResult (a x : Byte) (c : Bool) : Byte × Flags :=
  let r : Byte := BitVec.ofNat 8 (a.toNat + x.toNat + carryIn c)
  (r, { z := decide (r = 0), n := false, h := halfAdd8 a x c, c := carryAdd8 a x c })

/-- `(a - x - c) mod 256` with the flags of SUB, SBC and CP (R172, R173, R177). -/
def subResult (a x : Byte) (c : Bool) : Byte × Flags :=
  let r : Byte := BitVec.ofInt 8 ((a.toNat : Int) - (x.toNat : Int) - (carryIn c : Int))
  (r, { z := decide (r = 0), n := true, h := halfSub8 a x c, c := borrowSub8 a x c })

/-- A logical result with its flags: Z from the result, N and C cleared, H as given (R174 to R176). -/
def logicResult (r : Byte) (h : Bool) : Byte × Flags :=
  (r, { z := decide (r = 0), n := false, h := h, c := false })

/-- What an accumulator operation leaves in A, and its flags, from A, the operand and the carry flag before
(R170 to R177). CP leaves A as it was. -/
def AluOp.apply : AluOp → Byte → Byte → Bool → Byte × Flags
  | .add, a, x, _ => addResult a x false
  | .adc, a, x, c => addResult a x c
  | .sub, a, x, _ => subResult a x false
  | .sbc, a, x, c => subResult a x c
  | .and, a, x, _ => logicResult (a &&& x) true
  | .xor, a, x, _ => logicResult (a ^^^ x) false
  | .or, a, x, _ => logicResult (a ||| x) false
  | .cp, a, x, _ => (a, (subResult a x false).2)

/-- `(v + 1) mod 256` with the flags of INC; C is unchanged (R180, R181). -/
def incResult (v : Byte) (fl : Flags) : Byte × Flags :=
  let r := v + 1
  (r, { z := decide (r = 0), n := false, h := decide (v &&& 0xF = 0xF), c := fl.c })

/-- `(v - 1) mod 256` with the flags of DEC; C is unchanged (R182, R183). -/
def decResult (v : Byte) (fl : Flags) : Byte × Flags :=
  let r := v - 1
  (r, { z := decide (r = 0), n := true, h := decide (v &&& 0xF = 0x0), c := fl.c })

/-- The decimal adjustment of A (R185), with its flags. -/
def daaResult (a : Byte) (fl : Flags) : Byte × Flags :=
  if fl.n = false then
    let low : Bool := fl.h || decide ((a &&& 0x0F).toNat > 0x09)
    let high : Bool := fl.c || decide (a.toNat > 0x99)
    let adj : Byte := (if low then 0x06 else 0) ||| (if high then 0x60 else 0)
    let r := a + adj
    (r, { z := decide (r = 0), n := false, h := false, c := high })
  else
    let adj : Byte := (if fl.h then 0x06 else 0) ||| (if fl.c then 0x60 else 0)
    let r := a - adj
    (r, { z := decide (r = 0), n := true, h := false, c := fl.c })

/-- `(x + y) mod 65536` with the flags of `ADD HL,rr`; Z is unchanged (R200). -/
def addWordResult (x y : Word) (fl : Flags) : Word × Flags :=
  (x + y, { z := fl.z, n := false, h := halfAdd16 x y, c := carryAdd16 x y })

/-- `(SP + sext_16(e)) mod 65536` with the flags of `ADD SP,e` and `LD HL,SP+e`: Z and N cleared, H and C the
8-bit laws on the low byte of SP and the unsigned byte `e` (R163, R203, conflict C5). -/
def addSpResult (sp : Word) (e : Byte) : Word × Flags :=
  (sp + sext16 e,
    { z := false, n := false, h := halfAdd8 (loByte sp) e false, c := carryAdd8 (loByte sp) e false })

/-- The eight rotates and shifts, in the order of the selector `y` (R111). -/
inductive RotOp where
  | rlc | rrc | rl | rr | sla | sra | swap | srl
  deriving DecidableEq, Repr

/-- The operation the 3-bit selector names (R111). -/
def RotOp.ofCode : Nat → RotOp
  | 0 => .rlc
  | 1 => .rrc
  | 2 => .rl
  | 3 => .rr
  | 4 => .sla
  | 5 => .sra
  | 6 => .swap
  | _ => .srl

/-- The rotated or shifted byte and the new C, from the byte and the carry flag before (R215 to R222). -/
def RotOp.apply : RotOp → Byte → Bool → Byte × Bool
  | .rlc, v, _ => ((v <<< 1) ||| (if v.getLsbD 7 then 0x01 else 0), v.getLsbD 7)
  | .rrc, v, _ => ((v >>> 1) ||| (if v.getLsbD 0 then 0x80 else 0), v.getLsbD 0)
  | .rl, v, c => ((v <<< 1) ||| (if c then 0x01 else 0), v.getLsbD 7)
  | .rr, v, c => ((v >>> 1) ||| (if c then 0x80 else 0), v.getLsbD 0)
  | .sla, v, _ => (v <<< 1, v.getLsbD 7)
  | .sra, v, _ => ((v >>> 1) ||| (v &&& 0x80), v.getLsbD 0)
  | .swap, v, _ => (((v &&& 0x0F) <<< 4) ||| (v >>> 4), false)
  | .srl, v, _ => (v >>> 1, v.getLsbD 0)

/-- The result of a CB-table rotate or shift with its flags: Z from the result, N and H cleared (R215 to R222). -/
def rotResult (k : RotOp) (v : Byte) (fl : Flags) : Byte × Flags :=
  let (r, c) := k.apply v fl.c
  (r, { z := decide (r = 0), n := false, h := false, c := c })

/-- The result of a base-table rotate of A with its flags: as the CB form, but Z is forced to 0 (R210 to R213). -/
def rotAccResult (k : RotOp) (v : Byte) (fl : Flags) : Byte × Flags :=
  let (r, c) := k.apply v fl.c
  (r, { z := false, n := false, h := false, c := c })

/-- The flags of `BIT b,x`: Z the complement of the bit, N 0, H 1, C unchanged (R225). -/
def bitFlags (b : Nat) (v : Byte) (fl : Flags) : Flags :=
  { z := !v.getLsbD b, n := false, h := true, c := fl.c }

/-- `v & ~(1 << b)` (R226). -/
def resetBit (b : Nat) (v : Byte) : Byte := v &&& ~~~((1 : Byte) <<< b)

/-- `v | (1 << b)` (R227). -/
def setBit (b : Nat) (v : Byte) : Byte := v ||| ((1 : Byte) <<< b)

end Sys2Proof.Machine
end

