-- ==== Sys2Proof/Machine/Operands.lean ====
section
/-!
DEFINITION. The operand tables (rules R106 to R109) and the registers and pairs they name (R21, R22).
-/
namespace Sys2Proof.Machine

/-- The seven registers a 3-bit operand selector can name (R106). F is not among them (R21). -/
inductive Reg8 where
  | b | c | d | e | h | l | a
  deriving DecidableEq, Repr

/-- The operand `r8[i]`: a register, or the byte at the address in HL (R106). -/
inductive Place where
  | reg (r : Reg8)
  | memHL
  deriving DecidableEq, Repr

/-- The operand of the 3-bit code: 0 to 7 are B, C, D, E, H, L, (HL), A (R106). -/
def Place.ofCode : Nat → Place
  | 0 => .reg .b
  | 1 => .reg .c
  | 2 => .reg .d
  | 3 => .reg .e
  | 4 => .reg .h
  | 5 => .reg .l
  | 6 => .memHL
  | _ => .reg .a

/-- The second operand of an accumulator operation: register, memory or immediate form (R178). -/
inductive Source where
  | reg (r : Reg8)
  | memHL
  | imm (n : Byte)
  deriving DecidableEq, Repr

/-- The pair selector `r16[p]` (R107). -/
inductive Reg16 where
  | bc | de | hl | sp
  deriving DecidableEq, Repr

/-- The pair selector `r16stk[p]` of PUSH and POP (R108). -/
inductive StackReg where
  | bc | de | hl | af
  deriving DecidableEq, Repr

/-- The condition selector `cc[c]` (R109). -/
inductive Cond where
  | nz | z | nc | c
  deriving DecidableEq, Repr

/-- Whether a condition holds (R109, R240). -/
def Cond.holds (k : Cond) (fl : Flags) : Bool :=
  match k with
  | .nz => !fl.z
  | .z => fl.z
  | .nc => !fl.c
  | .c => fl.c

/-- The value of a register (R21). -/
def State.reg8 (s : State) : Reg8 → Byte
  | .b => s.b
  | .c => s.c
  | .d => s.d
  | .e => s.e
  | .h => s.h
  | .l => s.l
  | .a => s.a

/-- The state with a register replaced (R21). -/
def State.setReg8 (s : State) (r : Reg8) (v : Byte) : State :=
  match r with
  | .b => { s with b := v }
  | .c => { s with c := v }
  | .d => { s with d := v }
  | .e => { s with e := v }
  | .h => { s with h := v }
  | .l => { s with l := v }
  | .a => { s with a := v }

/-- `BC = {B, C}` (R22). -/
def State.bc (s : State) : Word := wordOf s.b s.c

/-- `DE = {D, E}` (R22). -/
def State.de (s : State) : Word := wordOf s.d s.e

/-- `HL = {H, L}` (R22). -/
def State.hl (s : State) : Word := wordOf s.h s.l

/-- `AF = {A, F}` (R22). -/
def State.af (s : State) : Word := wordOf s.a s.f

/-- The state with HL replaced: the high byte to H, the low byte to L (R22). -/
def State.setHl (s : State) (v : Word) : State := { s with h := hiByte v, l := loByte v }

/-- The value of a pair or of SP (R22, R24). -/
def State.reg16 (s : State) : Reg16 → Word
  | .bc => s.bc
  | .de => s.de
  | .hl => s.hl
  | .sp => s.sp

/-- The state with a pair or SP replaced (R22, R24). -/
def State.setReg16 (s : State) (p : Reg16) (v : Word) : State :=
  match p with
  | .bc => { s with b := hiByte v, c := loByte v }
  | .de => { s with d := hiByte v, e := loByte v }
  | .hl => s.setHl v
  | .sp => { s with sp := v }

/-- The value of a pair that PUSH can name (R108). -/
def State.stackReg (s : State) : StackReg → Word
  | .bc => s.bc
  | .de => s.de
  | .hl => s.hl
  | .af => s.af

/-- The state with a pair that POP can name replaced; for AF the low byte is masked, since bits 3 to 0 of F do
not exist (R22, R23, R166). -/
def State.setStackReg (s : State) (p : StackReg) (v : Word) : State :=
  match p with
  | .bc => { s with b := hiByte v, c := loByte v }
  | .de => { s with d := hiByte v, e := loByte v }
  | .hl => s.setHl v
  | .af => { s with a := hiByte v, f := loByte v &&& 0xF0 }

end Sys2Proof.Machine
end

