-- ==== Sys2Proof/Machine/Ops.lean ====
section
/-!
DEFINITION. The shared operations: the bus (rules R10, R61, R62), the fetch of an instruction's bytes (R11,
R275), the stack (R12), the operand forms (R106, R178, R214), the cycle count (R271, R350), the two exceptions
(decode error R280, interrupt dispatch R291) with the return from the second (R250, R251), and the parts of a
step that are not the instruction's own (R270, R290, R293, R294, R92).
-/
namespace Sys2Proof.Machine

/-! ### The bus -/

/-- `RawRead` (R10, R61): the byte an address names. -/
def State.rawRead (s : State) (addr : Word) : Byte :=
  match homeOf addr with
  | .div => s.div
  | .tima => s.tima
  | .tma => s.tma
  | .tac => s.tac
  | .iflag => s.iflag
  | .ie => s.ie
  | .cell k => Memory.read s.mem k

/-- `RawWrite` (R10, R62): the state with the byte an address names replaced, and nothing else changed. -/
def State.rawWrite (s : State) (addr : Word) (v : Byte) : State :=
  match homeOf addr with
  | .div => { s with div := v }
  | .tima => { s with tima := v }
  | .tma => { s with tma := v }
  | .tac => { s with tac := v }
  | .iflag => { s with iflag := v }
  | .ie => { s with ie := v }
  | .cell k => { s with mem := Memory.write s.mem k v }

/-- `MemRead(addr, 1)` (R10, R61): no read has a side effect, and none fails. -/
def State.memRead (s : State) (addr : Word) : Byte := s.rawRead addr

/-- `MemWrite(addr, 1, v)` (R62): a store to ROM is dropped unless `ROM_WRITABLE` (R67), a store to DIV clears
DIV and its accumulator if `DIV_WRITE_RESETS` (R306), and any other store replaces the byte. -/
def State.memWrite (s : State) (addr : Word) (v : Byte) : State :=
  if isRom addr && !s.cfg.romWritable then s
  else if decide (addr = 0xFF04) && s.cfg.divWriteResets then { s with div := 0, divCounter := 0 }
  else s.rawWrite addr v

/-- `MemWrite(addr, 2, v)` (R10): the low byte at `addr`, then the high byte at `addr + 1` modulo 65536. -/
def State.memWrite16 (s : State) (addr : Word) (v : Word) : State :=
  (s.memWrite addr (loByte v)).memWrite (addr + 1) (hiByte v)

/-! ### The instruction stream -/

/-- PC after the fetch of an `n`-byte instruction at PC: `n` further, or `n - 1` when the opcode fetch does not
advance PC (R29, R275). -/
def State.pcAfter (s : State) (n : Nat) : Word :=
  s.pc + BitVec.ofNat 16 (if s.haltBug then n - 1 else n)

/-- The state once an `n`-byte instruction at PC has been fetched: PC past its bytes, and the halt-bug latch
consumed by the opcode fetch (R11, R275). -/
def State.fetched (s : State) (n : Nat) : State :=
  { s with pc := s.pcAfter n, haltBug := false }

/-- The instruction at PC (R275, R276): the opcode byte at PC, and the operand bytes from the address the
opcode fetch leaves in PC, which is PC itself under the halt bug. Reads have no side effect (R61), so the bytes
are read here and the meanings only move PC past them (log entry 9). -/
def State.instrAtPc (s : State) : Instr :=
  decodeOp (s.memRead s.pc) (s.memRead (s.pcAfter 1)) (s.memRead (s.pcAfter 2))

/-- The M-cycles `CYCLES` gives for the instruction numbered `op` in spec/opcode_table.json, taken or not, when
the default table of R350 gives `table` (R6). -/
def State.cyclesOf (s : State) (op : Nat) (taken : Bool) (table : Nat) : Nat :=
  match s.cfg.cycleOverrides.find? (fun o => o.op == op && o.taken == taken) with
  | some o => o.cycles
  | none => table

/-- The state that reports the cycles of an instruction (R271); `table` is its number in R350. -/
def State.spend (s : State) (op table : Nat) (taken : Bool := true) : State :=
  { s with cycles := s.cyclesOf op taken table }

/-! ### Operands -/

/-- Reading `r8[i]` (R9, R106, R214). -/
def State.readPlace (s : State) : Place → Byte
  | .reg r => s.reg8 r
  | .memHL => s.memRead s.hl

/-- Writing `r8[i]` (R9, R106, R214). -/
def State.writePlace (s : State) (x : Place) (v : Byte) : State :=
  match x with
  | .reg r => s.setReg8 r v
  | .memHL => s.memWrite s.hl v

/-- The second operand of an accumulator operation (R178). -/
def State.readSource (s : State) : Source → Byte
  | .reg r => s.reg8 r
  | .memHL => s.memRead s.hl
  | .imm n => n

/-- The length of an accumulator operation by its operand form (R178). -/
def Source.length : Source → Nat
  | .imm _ => 2
  | _ => 1

/-- The cost of an accumulator operation by its operand form (R178, R350). -/
def Source.cost : Source → Nat
  | .reg _ => 1
  | _ => 2

/-- The cost of a CB-table instruction that writes its operand back: 2, or 4 for `(HL)` (R214, R350). -/
def Place.costWrite : Place → Nat
  | .reg _ => 2
  | .memHL => 4

/-- The cost of BIT, which only reads its operand: 2, or 3 for `(HL)` (R214, R350, conflict C4). -/
def Place.costRead : Place → Nat
  | .reg _ => 2
  | .memHL => 3

/-! ### The stack -/

/-- `Push16(v)` (R12): the high byte at SP - 1, then the low byte at SP - 2, through `MemWrite`. -/
def State.push16 (s : State) (v : Word) : State :=
  let s := { s with sp := s.sp - 1 }
  let s := s.memWrite s.sp (hiByte v)
  let s := { s with sp := s.sp - 1 }
  s.memWrite s.sp (loByte v)

/-- The word `Pop16()` returns (R12): the low byte from SP, the high byte from SP + 1. -/
def State.popped (s : State) : Word := wordOf (s.memRead (s.sp + 1)) (s.memRead s.sp)

/-- SP after `Pop16()` (R12). -/
def State.dropTwo (s : State) : State := { s with sp := s.sp + 2 }

/-! ### Exceptions -/

/-- Taking `UndefinedOpcode` (R13, R280): the fault is recorded with the address of the opcode byte, `run_state`
becomes FAULTED, 0 cycles are reported, and nothing else changes (R277): PC still names the byte. -/
def State.raiseUndefinedOpcode (s : State) (op : Byte) : State :=
  { s with runState := .faulted { kind := .undefinedOpcode, pc := s.pc, op := op }, cycles := 0 }

/-- `pend = IF & IE & 0x1F` (R290). -/
def State.pending (s : State) : Byte := s.iflag &&& s.ie &&& 0x1F

/-- The least bit of `pend` that is set (R291, R292): priority is positional. -/
def lowestSource (pend : Byte) : Nat :=
  if pend.getLsbD 0 then 0
  else if pend.getLsbD 1 then 1
  else if pend.getLsbD 2 then 2
  else if pend.getLsbD 3 then 3
  else 4

/-- The vector of source `k` (R285): `0x0040 + 8 * k`. -/
def vectorOf (k : Nat) : Word := 0x0040 + BitVec.ofNat 16 (8 * k)

/-- Interrupt dispatch (R291): the source is chosen, PC is pushed, IME and the enable latch are cleared, the
source's IF bit is cleared after the push, PC goes to the vector, `halted` is cleared, and 5 cycles are
reported. `halt_bug` is not changed (decision D19). -/
def State.dispatchInterrupt (s : State) : State :=
  let k := lowestSource s.pending
  let s := s.push16 s.pc
  let s := { s with ime := false, eiPending := false }
  let s := { s with iflag := s.iflag &&& ~~~((1 : Byte) <<< k) }
  { s with pc := vectorOf k, halted := false, cycles := 5 }

/-- `Return()` (R250): PC is popped. -/
def State.popPc (s : State) : State :=
  { s.dropTwo with pc := s.popped }

/-- Return from an interrupt (R251, R295): PC is popped and IME set at once; nothing else is restored, and
the enable latch is not touched. -/
def State.returnFromInterrupt (s : State) : State :=
  { s.popPc with ime := true }

/-! ### The step around the instruction -/

/-- The wake of rule R290: with a request pending and enabled, `halted` clears, whatever IME is. -/
def State.wake (s : State) : State :=
  if s.pending = 0 then s else { s with halted := false }

/-- The condition of interrupt dispatch (R291). -/
def State.mustDispatch (s : State) : Bool := s.ime && decide (s.pending ≠ 0)

/-- A halted idle step (R293): 1 cycle, nothing else. -/
def State.idle (s : State) : State := { s with cycles := 1 }

/-- The completion of the enable latch (R270, R294): `armed` is the latch at the start of the step. -/
def State.completeLatch (s : State) (armed : Bool) : State :=
  if armed && s.eiPending then { s with ime := true, eiPending := false } else s

/-- One move of the environment (R92, log entry 4). -/
def State.envMove (s : State) : EnvMove → State
  | .raise m => { s with iflag := s.iflag ||| (m &&& 0x1B) }
  | .setIo offset v =>
    if offset < 0x80 ∧ offset ∉ [0x04, 0x05, 0x06, 0x07] then
      s.rawWrite (BitVec.ofNat 16 (0xFF00 + offset)) v
    else s

/-- The environment's moves before this step (R92): the head of the schedule `ENV`, in order. -/
def State.environment (s : State) : State :=
  match s.env with
  | [] => s
  | moves :: later => moves.foldl State.envMove { s with env := later }

end Sys2Proof.Machine
end

