-- ==== Sys2Proof/Machine/Load8.lean ====
section
/-!
DEFINITION. 8-bit load and store instructions (rules R130 to R148). None writes a flag, none can fault. The
number before the operands is the instruction's number in spec/opcode_table.json; the M-cycles are those of
R350. An operand that is an address is read from the state before the fetch: the fetch changes no register.
-/
namespace Sys2Proof.Machine

/-- The address `0xFF00 + n` of the high-page forms (R104, R143 to R146). -/
def highPage (n : Byte) : Word := wordOf 0xFF n

/-- `LD r,r'` (R130). -/
def ldReg (op : Nat) (r r' : Reg8) (s : State) : Host.Outcome State Fault Refusal :=
  .next (((s.fetched 1).setReg8 r (s.reg8 r')).spend op 1)

/-- `LD r,n` (R131). -/
def ldImm (op : Nat) (r : Reg8) (n : Byte) (s : State) : Host.Outcome State Fault Refusal :=
  .next (((s.fetched 2).setReg8 r n).spend op 2)

/-- `LD r,(HL)` (R132): the address is formed from HL before H or L is written. -/
def ldFromMem (op : Nat) (r : Reg8) (s : State) : Host.Outcome State Fault Refusal :=
  .next (((s.fetched 1).setReg8 r (s.memRead s.hl)).spend op 2)

/-- `LD (HL),r` (R133). -/
def ldToMem (op : Nat) (r : Reg8) (s : State) : Host.Outcome State Fault Refusal :=
  .next (((s.fetched 1).memWrite s.hl (s.reg8 r)).spend op 2)

/-- `LD (HL),n` (R134). -/
def ldImmToMem (op : Nat) (n : Byte) (s : State) : Host.Outcome State Fault Refusal :=
  .next (((s.fetched 2).memWrite s.hl n).spend op 3)

/-- A load of A from `addr`, `len` bytes long (R135, R136, R139, R144, R146). -/
def loadA (op len cost : Nat) (addr : Word) (s : State) : Host.Outcome State Fault Refusal :=
  .next (State.spend { s.fetched len with a := s.memRead addr } op cost)

/-- A store of A to `addr`, `len` bytes long (R137, R138, R140, R143, R145). -/
def storeA (op len cost : Nat) (addr : Word) (s : State) : Host.Outcome State Fault Refusal :=
  .next (((s.fetched len).memWrite addr s.a).spend op cost)

/-- `LD A,(HL+)` and `LD A,(HL-)`: HL moves by `step` after the load (R142, R148). -/
def loadAStep (op : Nat) (step : Word) (s : State) : Host.Outcome State Fault Refusal :=
  .next ((State.setHl { s.fetched 1 with a := s.memRead s.hl } (s.hl + step)).spend op 2)

/-- `LD (HL+),A` and `LD (HL-),A`: HL moves by `step` after the store (R141, R147). -/
def storeAStep (op : Nat) (step : Word) (s : State) : Host.Outcome State Fault Refusal :=
  .next ((((s.fetched 1).memWrite s.hl s.a).setHl (s.hl + step)).spend op 2)

/-- `LD (BC),A` (R137). -/
def execLd_mBC_A (s : State) : Host.Outcome State Fault Refusal :=
  storeA 0x02 1 2 s.bc s

/-- `LD B,n` (R131). -/
def execLd_B_n (n : Byte) (s : State) : Host.Outcome State Fault Refusal :=
  ldImm 0x06 .b n s

/-- `LD A,(BC)` (R135). -/
def execLd_A_mBC (s : State) : Host.Outcome State Fault Refusal :=
  loadA 0x0A 1 2 s.bc s

/-- `LD C,n` (R131). -/
def execLd_C_n (n : Byte) (s : State) : Host.Outcome State Fault Refusal :=
  ldImm 0x0E .c n s

/-- `LD (DE),A` (R138). -/
def execLd_mDE_A (s : State) : Host.Outcome State Fault Refusal :=
  storeA 0x12 1 2 s.de s

/-- `LD D,n` (R131). -/
def execLd_D_n (n : Byte) (s : State) : Host.Outcome State Fault Refusal :=
  ldImm 0x16 .d n s

/-- `LD A,(DE)` (R136). -/
def execLd_A_mDE (s : State) : Host.Outcome State Fault Refusal :=
  loadA 0x1A 1 2 s.de s

/-- `LD E,n` (R131). -/
def execLd_E_n (n : Byte) (s : State) : Host.Outcome State Fault Refusal :=
  ldImm 0x1E .e n s

/-- `LD (HL+),A` (R141). -/
def execLd_HLinc_A (s : State) : Host.Outcome State Fault Refusal :=
  storeAStep 0x22 1 s

/-- `LD H,n` (R131). -/
def execLd_H_n (n : Byte) (s : State) : Host.Outcome State Fault Refusal :=
  ldImm 0x26 .h n s

/-- `LD A,(HL+)` (R142). -/
def execLd_A_HLinc (s : State) : Host.Outcome State Fault Refusal :=
  loadAStep 0x2A 1 s

/-- `LD L,n` (R131). -/
def execLd_L_n (n : Byte) (s : State) : Host.Outcome State Fault Refusal :=
  ldImm 0x2E .l n s

/-- `LD (HL-),A` (R147). -/
def execLd_HLdec_A (s : State) : Host.Outcome State Fault Refusal :=
  storeAStep 0x32 (-1) s

/-- `LD (HL),n` (R134). -/
def execLd_mHL_n (n : Byte) (s : State) : Host.Outcome State Fault Refusal :=
  ldImmToMem 0x36 n s

/-- `LD A,(HL-)` (R148). -/
def execLd_A_HLdec (s : State) : Host.Outcome State Fault Refusal :=
  loadAStep 0x3A (-1) s

/-- `LD A,n` (R131). -/
def execLd_A_n (n : Byte) (s : State) : Host.Outcome State Fault Refusal :=
  ldImm 0x3E .a n s

/-- `LD B,B` (R130). -/
def execLd_B_B (s : State) : Host.Outcome State Fault Refusal :=
  ldReg 0x40 .b .b s

/-- `LD B,C` (R130). -/
def execLd_B_C (s : State) : Host.Outcome State Fault Refusal :=
  ldReg 0x41 .b .c s

/-- `LD B,D` (R130). -/
def execLd_B_D (s : State) : Host.Outcome State Fault Refusal :=
  ldReg 0x42 .b .d s

/-- `LD B,E` (R130). -/
def execLd_B_E (s : State) : Host.Outcome State Fault Refusal :=
  ldReg 0x43 .b .e s

/-- `LD B,H` (R130). -/
def execLd_B_H (s : State) : Host.Outcome State Fault Refusal :=
  ldReg 0x44 .b .h s

/-- `LD B,L` (R130). -/
def execLd_B_L (s : State) : Host.Outcome State Fault Refusal :=
  ldReg 0x45 .b .l s

/-- `LD B,(HL)` (R132). -/
def execLd_B_mHL (s : State) : Host.Outcome State Fault Refusal :=
  ldFromMem 0x46 .b s

/-- `LD B,A` (R130). -/
def execLd_B_A (s : State) : Host.Outcome State Fault Refusal :=
  ldReg 0x47 .b .a s

/-- `LD C,B` (R130). -/
def execLd_C_B (s : State) : Host.Outcome State Fault Refusal :=
  ldReg 0x48 .c .b s

/-- `LD C,C` (R130). -/
def execLd_C_C (s : State) : Host.Outcome State Fault Refusal :=
  ldReg 0x49 .c .c s

/-- `LD C,D` (R130). -/
def execLd_C_D (s : State) : Host.Outcome State Fault Refusal :=
  ldReg 0x4A .c .d s

/-- `LD C,E` (R130). -/
def execLd_C_E (s : State) : Host.Outcome State Fault Refusal :=
  ldReg 0x4B .c .e s

/-- `LD C,H` (R130). -/
def execLd_C_H (s : State) : Host.Outcome State Fault Refusal :=
  ldReg 0x4C .c .h s

/-- `LD C,L` (R130). -/
def execLd_C_L (s : State) : Host.Outcome State Fault Refusal :=
  ldReg 0x4D .c .l s

/-- `LD C,(HL)` (R132). -/
def execLd_C_mHL (s : State) : Host.Outcome State Fault Refusal :=
  ldFromMem 0x4E .c s

/-- `LD C,A` (R130). -/
def execLd_C_A (s : State) : Host.Outcome State Fault Refusal :=
  ldReg 0x4F .c .a s

/-- `LD D,B` (R130). -/
def execLd_D_B (s : State) : Host.Outcome State Fault Refusal :=
  ldReg 0x50 .d .b s

/-- `LD D,C` (R130). -/
def execLd_D_C (s : State) : Host.Outcome State Fault Refusal :=
  ldReg 0x51 .d .c s

/-- `LD D,D` (R130). -/
def execLd_D_D (s : State) : Host.Outcome State Fault Refusal :=
  ldReg 0x52 .d .d s

/-- `LD D,E` (R130). -/
def execLd_D_E (s : State) : Host.Outcome State Fault Refusal :=
  ldReg 0x53 .d .e s

/-- `LD D,H` (R130). -/
def execLd_D_H (s : State) : Host.Outcome State Fault Refusal :=
  ldReg 0x54 .d .h s

/-- `LD D,L` (R130). -/
def execLd_D_L (s : State) : Host.Outcome State Fault Refusal :=
  ldReg 0x55 .d .l s

/-- `LD D,(HL)` (R132). -/
def execLd_D_mHL (s : State) : Host.Outcome State Fault Refusal :=
  ldFromMem 0x56 .d s

/-- `LD D,A` (R130). -/
def execLd_D_A (s : State) : Host.Outcome State Fault Refusal :=
  ldReg 0x57 .d .a s

/-- `LD E,B` (R130). -/
def execLd_E_B (s : State) : Host.Outcome State Fault Refusal :=
  ldReg 0x58 .e .b s

/-- `LD E,C` (R130). -/
def execLd_E_C (s : State) : Host.Outcome State Fault Refusal :=
  ldReg 0x59 .e .c s

/-- `LD E,D` (R130). -/
def execLd_E_D (s : State) : Host.Outcome State Fault Refusal :=
  ldReg 0x5A .e .d s

/-- `LD E,E` (R130). -/
def execLd_E_E (s : State) : Host.Outcome State Fault Refusal :=
  ldReg 0x5B .e .e s

/-- `LD E,H` (R130). -/
def execLd_E_H (s : State) : Host.Outcome State Fault Refusal :=
  ldReg 0x5C .e .h s

/-- `LD E,L` (R130). -/
def execLd_E_L (s : State) : Host.Outcome State Fault Refusal :=
  ldReg 0x5D .e .l s

/-- `LD E,(HL)` (R132). -/
def execLd_E_mHL (s : State) : Host.Outcome State Fault Refusal :=
  ldFromMem 0x5E .e s

/-- `LD E,A` (R130). -/
def execLd_E_A (s : State) : Host.Outcome State Fault Refusal :=
  ldReg 0x5F .e .a s

/-- `LD H,B` (R130). -/
def execLd_H_B (s : State) : Host.Outcome State Fault Refusal :=
  ldReg 0x60 .h .b s

/-- `LD H,C` (R130). -/
def execLd_H_C (s : State) : Host.Outcome State Fault Refusal :=
  ldReg 0x61 .h .c s

/-- `LD H,D` (R130). -/
def execLd_H_D (s : State) : Host.Outcome State Fault Refusal :=
  ldReg 0x62 .h .d s

/-- `LD H,E` (R130). -/
def execLd_H_E (s : State) : Host.Outcome State Fault Refusal :=
  ldReg 0x63 .h .e s

/-- `LD H,H` (R130). -/
def execLd_H_H (s : State) : Host.Outcome State Fault Refusal :=
  ldReg 0x64 .h .h s

/-- `LD H,L` (R130). -/
def execLd_H_L (s : State) : Host.Outcome State Fault Refusal :=
  ldReg 0x65 .h .l s

/-- `LD H,(HL)` (R132). -/
def execLd_H_mHL (s : State) : Host.Outcome State Fault Refusal :=
  ldFromMem 0x66 .h s

/-- `LD H,A` (R130). -/
def execLd_H_A (s : State) : Host.Outcome State Fault Refusal :=
  ldReg 0x67 .h .a s

/-- `LD L,B` (R130). -/
def execLd_L_B (s : State) : Host.Outcome State Fault Refusal :=
  ldReg 0x68 .l .b s

/-- `LD L,C` (R130). -/
def execLd_L_C (s : State) : Host.Outcome State Fault Refusal :=
  ldReg 0x69 .l .c s

/-- `LD L,D` (R130). -/
def execLd_L_D (s : State) : Host.Outcome State Fault Refusal :=
  ldReg 0x6A .l .d s

/-- `LD L,E` (R130). -/
def execLd_L_E (s : State) : Host.Outcome State Fault Refusal :=
  ldReg 0x6B .l .e s

/-- `LD L,H` (R130). -/
def execLd_L_H (s : State) : Host.Outcome State Fault Refusal :=
  ldReg 0x6C .l .h s

/-- `LD L,L` (R130). -/
def execLd_L_L (s : State) : Host.Outcome State Fault Refusal :=
  ldReg 0x6D .l .l s

/-- `LD L,(HL)` (R132). -/
def execLd_L_mHL (s : State) : Host.Outcome State Fault Refusal :=
  ldFromMem 0x6E .l s

/-- `LD L,A` (R130). -/
def execLd_L_A (s : State) : Host.Outcome State Fault Refusal :=
  ldReg 0x6F .l .a s

/-- `LD (HL),B` (R133). -/
def execLd_mHL_B (s : State) : Host.Outcome State Fault Refusal :=
  ldToMem 0x70 .b s

/-- `LD (HL),C` (R133). -/
def execLd_mHL_C (s : State) : Host.Outcome State Fault Refusal :=
  ldToMem 0x71 .c s

/-- `LD (HL),D` (R133). -/
def execLd_mHL_D (s : State) : Host.Outcome State Fault Refusal :=
  ldToMem 0x72 .d s

/-- `LD (HL),E` (R133). -/
def execLd_mHL_E (s : State) : Host.Outcome State Fault Refusal :=
  ldToMem 0x73 .e s

/-- `LD (HL),H` (R133). -/
def execLd_mHL_H (s : State) : Host.Outcome State Fault Refusal :=
  ldToMem 0x74 .h s

/-- `LD (HL),L` (R133). -/
def execLd_mHL_L (s : State) : Host.Outcome State Fault Refusal :=
  ldToMem 0x75 .l s

/-- `LD (HL),A` (R133). -/
def execLd_mHL_A (s : State) : Host.Outcome State Fault Refusal :=
  ldToMem 0x77 .a s

/-- `LD A,B` (R130). -/
def execLd_A_B (s : State) : Host.Outcome State Fault Refusal :=
  ldReg 0x78 .a .b s

/-- `LD A,C` (R130). -/
def execLd_A_C (s : State) : Host.Outcome State Fault Refusal :=
  ldReg 0x79 .a .c s

/-- `LD A,D` (R130). -/
def execLd_A_D (s : State) : Host.Outcome State Fault Refusal :=
  ldReg 0x7A .a .d s

/-- `LD A,E` (R130). -/
def execLd_A_E (s : State) : Host.Outcome State Fault Refusal :=
  ldReg 0x7B .a .e s

/-- `LD A,H` (R130). -/
def execLd_A_H (s : State) : Host.Outcome State Fault Refusal :=
  ldReg 0x7C .a .h s

/-- `LD A,L` (R130). -/
def execLd_A_L (s : State) : Host.Outcome State Fault Refusal :=
  ldReg 0x7D .a .l s

/-- `LD A,(HL)` (R132). -/
def execLd_A_mHL (s : State) : Host.Outcome State Fault Refusal :=
  ldFromMem 0x7E .a s

/-- `LD A,A` (R130). -/
def execLd_A_A (s : State) : Host.Outcome State Fault Refusal :=
  ldReg 0x7F .a .a s

/-- `LDH (n),A` (R143). -/
def execLdh_mn_A (n : Byte) (s : State) : Host.Outcome State Fault Refusal :=
  storeA 0xE0 2 3 (highPage n) s

/-- `LDH (C),A` (R145). -/
def execLdh_mC_A (s : State) : Host.Outcome State Fault Refusal :=
  storeA 0xE2 1 2 (highPage s.c) s

/-- `LD (nn),A` (R140). -/
def execLd_mnn_A (nn : Word) (s : State) : Host.Outcome State Fault Refusal :=
  storeA 0xEA 3 4 nn s

/-- `LDH A,(n)` (R144). -/
def execLdh_A_mn (n : Byte) (s : State) : Host.Outcome State Fault Refusal :=
  loadA 0xF0 2 3 (highPage n) s

/-- `LDH A,(C)` (R146). -/
def execLdh_A_mC (s : State) : Host.Outcome State Fault Refusal :=
  loadA 0xF2 1 2 (highPage s.c) s

/-- `LD A,(nn)` (R139). -/
def execLd_A_mnn (nn : Word) (s : State) : Host.Outcome State Fault Refusal :=
  loadA 0xFA 3 4 nn s

end Sys2Proof.Machine
end

