-- ==== Sys2Proof/Machine/Load16.lean ====
section
/-!
DEFINITION. 16-bit load and stack instructions (rules R160 to R166).
-/
namespace Sys2Proof.Machine

/-- `LD rr,nn` (R160). -/
def ldPair (op : Nat) (p : Reg16) (nn : Word) (s : State) : Host.Outcome State Fault Refusal :=
  .next (((s.fetched 3).setReg16 p nn).spend op 3)

/-- `LD HL,SP+e` (R163). -/
def ldHlSp (op : Nat) (e : Byte) (s : State) : Host.Outcome State Fault Refusal :=
  let (r, fl) := addSpResult s.sp e
  .next ((((s.fetched 2).setHl r).setFlags fl).spend op 3)

/-- `PUSH rr` (R165). -/
def pushPair (op : Nat) (p : StackReg) (s : State) : Host.Outcome State Fault Refusal :=
  .next (((s.fetched 1).push16 (s.stackReg p)).spend op 4)

/-- `POP rr` (R166). -/
def popPair (op : Nat) (p : StackReg) (s : State) : Host.Outcome State Fault Refusal :=
  .next (((s.fetched 1).dropTwo.setStackReg p s.popped).spend op 3)

/-- `LD BC,nn` (R160). -/
def execLd_BC_nn (nn : Word) (s : State) : Host.Outcome State Fault Refusal :=
  ldPair 0x01 .bc nn s

/-- `LD (nn),SP` (R161). -/
def execLd_mnn_SP (nn : Word) (s : State) : Host.Outcome State Fault Refusal :=
  .next (((s.fetched 3).memWrite16 nn s.sp).spend 0x08 5)

/-- `LD DE,nn` (R160). -/
def execLd_DE_nn (nn : Word) (s : State) : Host.Outcome State Fault Refusal :=
  ldPair 0x11 .de nn s

/-- `LD HL,nn` (R160). -/
def execLd_HL_nn (nn : Word) (s : State) : Host.Outcome State Fault Refusal :=
  ldPair 0x21 .hl nn s

/-- `LD SP,nn` (R160). -/
def execLd_SP_nn (nn : Word) (s : State) : Host.Outcome State Fault Refusal :=
  ldPair 0x31 .sp nn s

/-- `POP BC` (R166). -/
def execPop_BC (s : State) : Host.Outcome State Fault Refusal :=
  popPair 0xC1 .bc s

/-- `PUSH BC` (R165). -/
def execPush_BC (s : State) : Host.Outcome State Fault Refusal :=
  pushPair 0xC5 .bc s

/-- `POP DE` (R166). -/
def execPop_DE (s : State) : Host.Outcome State Fault Refusal :=
  popPair 0xD1 .de s

/-- `PUSH DE` (R165). -/
def execPush_DE (s : State) : Host.Outcome State Fault Refusal :=
  pushPair 0xD5 .de s

/-- `POP HL` (R166). -/
def execPop_HL (s : State) : Host.Outcome State Fault Refusal :=
  popPair 0xE1 .hl s

/-- `PUSH HL` (R165). -/
def execPush_HL (s : State) : Host.Outcome State Fault Refusal :=
  pushPair 0xE5 .hl s

/-- `POP AF` (R166). -/
def execPop_AF (s : State) : Host.Outcome State Fault Refusal :=
  popPair 0xF1 .af s

/-- `PUSH AF` (R165). -/
def execPush_AF (s : State) : Host.Outcome State Fault Refusal :=
  pushPair 0xF5 .af s

/-- `LD HL,SP+e` (R163). -/
def execLd_HL_SPe (e : Byte) (s : State) : Host.Outcome State Fault Refusal :=
  ldHlSp 0xF8 e s

/-- `LD SP,HL` (R162). -/
def execLd_SP_HL (s : State) : Host.Outcome State Fault Refusal :=
  .next (State.spend { s.fetched 1 with sp := s.hl } 0xF9 2)

end Sys2Proof.Machine
end

