-- ==== Sys2Proof/Machine/Alu8.lean ====
section
/-!
DEFINITION. 8-bit arithmetic and logic instructions (rules R170 to R188, operand forms R178).
-/
namespace Sys2Proof.Machine

/-- An accumulator operation (R170 to R178): the operand is read before A is written. -/
def alu (op : Nat) (k : AluOp) (x : Source) (s : State) : Host.Outcome State Fault Refusal :=
  let (r, fl) := k.apply s.a (s.readSource x) s.flags.c
  .next ((State.setFlags { s.fetched x.length with a := r } fl).spend op x.cost)

/-- `INC r` and `INC (HL)` (R180, R181): one read, then one write; 1 cycle, or 3 for `(HL)`. -/
def incPlace (op : Nat) (x : Place) (s : State) : Host.Outcome State Fault Refusal :=
  let (r, fl) := incResult (s.readPlace x) s.flags
  .next ((((s.fetched 1).setFlags fl).writePlace x r).spend op (if x = .memHL then 3 else 1))

/-- `DEC r` and `DEC (HL)` (R182, R183): one read, then one write; 1 cycle, or 3 for `(HL)`. -/
def decPlace (op : Nat) (x : Place) (s : State) : Host.Outcome State Fault Refusal :=
  let (r, fl) := decResult (s.readPlace x) s.flags
  .next ((((s.fetched 1).setFlags fl).writePlace x r).spend op (if x = .memHL then 3 else 1))

/-- A one-byte instruction that writes A and the flags only (R185 to R188, R210 to R213). -/
def accFlags (op : Nat) (result : Byte × Flags) (s : State) : Host.Outcome State Fault Refusal :=
  .next ((State.setFlags { s.fetched 1 with a := result.1 } result.2).spend op 1)

/-- `INC B` (R180). -/
def execInc_B (s : State) : Host.Outcome State Fault Refusal :=
  incPlace 0x04 (.reg .b) s

/-- `DEC B` (R182). -/
def execDec_B (s : State) : Host.Outcome State Fault Refusal :=
  decPlace 0x05 (.reg .b) s

/-- `INC C` (R180). -/
def execInc_C (s : State) : Host.Outcome State Fault Refusal :=
  incPlace 0x0C (.reg .c) s

/-- `DEC C` (R182). -/
def execDec_C (s : State) : Host.Outcome State Fault Refusal :=
  decPlace 0x0D (.reg .c) s

/-- `INC D` (R180). -/
def execInc_D (s : State) : Host.Outcome State Fault Refusal :=
  incPlace 0x14 (.reg .d) s

/-- `DEC D` (R182). -/
def execDec_D (s : State) : Host.Outcome State Fault Refusal :=
  decPlace 0x15 (.reg .d) s

/-- `INC E` (R180). -/
def execInc_E (s : State) : Host.Outcome State Fault Refusal :=
  incPlace 0x1C (.reg .e) s

/-- `DEC E` (R182). -/
def execDec_E (s : State) : Host.Outcome State Fault Refusal :=
  decPlace 0x1D (.reg .e) s

/-- `INC H` (R180). -/
def execInc_H (s : State) : Host.Outcome State Fault Refusal :=
  incPlace 0x24 (.reg .h) s

/-- `DEC H` (R182). -/
def execDec_H (s : State) : Host.Outcome State Fault Refusal :=
  decPlace 0x25 (.reg .h) s

/-- `DAA` (R185). -/
def execDaa (s : State) : Host.Outcome State Fault Refusal :=
  accFlags 0x27 (daaResult s.a s.flags) s

/-- `INC L` (R180). -/
def execInc_L (s : State) : Host.Outcome State Fault Refusal :=
  incPlace 0x2C (.reg .l) s

/-- `DEC L` (R182). -/
def execDec_L (s : State) : Host.Outcome State Fault Refusal :=
  decPlace 0x2D (.reg .l) s

/-- `CPL` (R186). -/
def execCpl (s : State) : Host.Outcome State Fault Refusal :=
  accFlags 0x2F (s.a ^^^ 0xFF, { s.flags with n := true, h := true }) s

/-- `INC (HL)` (R181). -/
def execInc_mHL (s : State) : Host.Outcome State Fault Refusal :=
  incPlace 0x34 .memHL s

/-- `DEC (HL)` (R183). -/
def execDec_mHL (s : State) : Host.Outcome State Fault Refusal :=
  decPlace 0x35 .memHL s

/-- `SCF` (R187). -/
def execScf (s : State) : Host.Outcome State Fault Refusal :=
  accFlags 0x37 (s.a, { s.flags with n := false, h := false, c := true }) s

/-- `INC A` (R180). -/
def execInc_A (s : State) : Host.Outcome State Fault Refusal :=
  incPlace 0x3C (.reg .a) s

/-- `DEC A` (R182). -/
def execDec_A (s : State) : Host.Outcome State Fault Refusal :=
  decPlace 0x3D (.reg .a) s

/-- `CCF` (R188). -/
def execCcf (s : State) : Host.Outcome State Fault Refusal :=
  accFlags 0x3F (s.a, { s.flags with n := false, h := false, c := !s.flags.c }) s

/-- `ADD A,B` (R170). -/
def execAdd_A_B (s : State) : Host.Outcome State Fault Refusal :=
  alu 0x80 .add (.reg .b) s

/-- `ADD A,C` (R170). -/
def execAdd_A_C (s : State) : Host.Outcome State Fault Refusal :=
  alu 0x81 .add (.reg .c) s

/-- `ADD A,D` (R170). -/
def execAdd_A_D (s : State) : Host.Outcome State Fault Refusal :=
  alu 0x82 .add (.reg .d) s

/-- `ADD A,E` (R170). -/
def execAdd_A_E (s : State) : Host.Outcome State Fault Refusal :=
  alu 0x83 .add (.reg .e) s

/-- `ADD A,H` (R170). -/
def execAdd_A_H (s : State) : Host.Outcome State Fault Refusal :=
  alu 0x84 .add (.reg .h) s

/-- `ADD A,L` (R170). -/
def execAdd_A_L (s : State) : Host.Outcome State Fault Refusal :=
  alu 0x85 .add (.reg .l) s

/-- `ADD A,(HL)` (R170). -/
def execAdd_A_mHL (s : State) : Host.Outcome State Fault Refusal :=
  alu 0x86 .add .memHL s

/-- `ADD A,A` (R170). -/
def execAdd_A_A (s : State) : Host.Outcome State Fault Refusal :=
  alu 0x87 .add (.reg .a) s

/-- `ADC A,B` (R171). -/
def execAdc_A_B (s : State) : Host.Outcome State Fault Refusal :=
  alu 0x88 .adc (.reg .b) s

/-- `ADC A,C` (R171). -/
def execAdc_A_C (s : State) : Host.Outcome State Fault Refusal :=
  alu 0x89 .adc (.reg .c) s

/-- `ADC A,D` (R171). -/
def execAdc_A_D (s : State) : Host.Outcome State Fault Refusal :=
  alu 0x8A .adc (.reg .d) s

/-- `ADC A,E` (R171). -/
def execAdc_A_E (s : State) : Host.Outcome State Fault Refusal :=
  alu 0x8B .adc (.reg .e) s

/-- `ADC A,H` (R171). -/
def execAdc_A_H (s : State) : Host.Outcome State Fault Refusal :=
  alu 0x8C .adc (.reg .h) s

/-- `ADC A,L` (R171). -/
def execAdc_A_L (s : State) : Host.Outcome State Fault Refusal :=
  alu 0x8D .adc (.reg .l) s

/-- `ADC A,(HL)` (R171). -/
def execAdc_A_mHL (s : State) : Host.Outcome State Fault Refusal :=
  alu 0x8E .adc .memHL s

/-- `ADC A,A` (R171). -/
def execAdc_A_A (s : State) : Host.Outcome State Fault Refusal :=
  alu 0x8F .adc (.reg .a) s

/-- `SUB B` (R172). -/
def execSub_B (s : State) : Host.Outcome State Fault Refusal :=
  alu 0x90 .sub (.reg .b) s

/-- `SUB C` (R172). -/
def execSub_C (s : State) : Host.Outcome State Fault Refusal :=
  alu 0x91 .sub (.reg .c) s

/-- `SUB D` (R172). -/
def execSub_D (s : State) : Host.Outcome State Fault Refusal :=
  alu 0x92 .sub (.reg .d) s

/-- `SUB E` (R172). -/
def execSub_E (s : State) : Host.Outcome State Fault Refusal :=
  alu 0x93 .sub (.reg .e) s

/-- `SUB H` (R172). -/
def execSub_H (s : State) : Host.Outcome State Fault Refusal :=
  alu 0x94 .sub (.reg .h) s

/-- `SUB L` (R172). -/
def execSub_L (s : State) : Host.Outcome State Fault Refusal :=
  alu 0x95 .sub (.reg .l) s

/-- `SUB (HL)` (R172). -/
def execSub_mHL (s : State) : Host.Outcome State Fault Refusal :=
  alu 0x96 .sub .memHL s

/-- `SUB A` (R172). -/
def execSub_A (s : State) : Host.Outcome State Fault Refusal :=
  alu 0x97 .sub (.reg .a) s

/-- `SBC A,B` (R173). -/
def execSbc_A_B (s : State) : Host.Outcome State Fault Refusal :=
  alu 0x98 .sbc (.reg .b) s

/-- `SBC A,C` (R173). -/
def execSbc_A_C (s : State) : Host.Outcome State Fault Refusal :=
  alu 0x99 .sbc (.reg .c) s

/-- `SBC A,D` (R173). -/
def execSbc_A_D (s : State) : Host.Outcome State Fault Refusal :=
  alu 0x9A .sbc (.reg .d) s

/-- `SBC A,E` (R173). -/
def execSbc_A_E (s : State) : Host.Outcome State Fault Refusal :=
  alu 0x9B .sbc (.reg .e) s

/-- `SBC A,H` (R173). -/
def execSbc_A_H (s : State) : Host.Outcome State Fault Refusal :=
  alu 0x9C .sbc (.reg .h) s

/-- `SBC A,L` (R173). -/
def execSbc_A_L (s : State) : Host.Outcome State Fault Refusal :=
  alu 0x9D .sbc (.reg .l) s

/-- `SBC A,(HL)` (R173). -/
def execSbc_A_mHL (s : State) : Host.Outcome State Fault Refusal :=
  alu 0x9E .sbc .memHL s

/-- `SBC A,A` (R173). -/
def execSbc_A_A (s : State) : Host.Outcome State Fault Refusal :=
  alu 0x9F .sbc (.reg .a) s

/-- `AND B` (R174). -/
def execAnd_B (s : State) : Host.Outcome State Fault Refusal :=
  alu 0xA0 .and (.reg .b) s

/-- `AND C` (R174). -/
def execAnd_C (s : State) : Host.Outcome State Fault Refusal :=
  alu 0xA1 .and (.reg .c) s

/-- `AND D` (R174). -/
def execAnd_D (s : State) : Host.Outcome State Fault Refusal :=
  alu 0xA2 .and (.reg .d) s

/-- `AND E` (R174). -/
def execAnd_E (s : State) : Host.Outcome State Fault Refusal :=
  alu 0xA3 .and (.reg .e) s

/-- `AND H` (R174). -/
def execAnd_H (s : State) : Host.Outcome State Fault Refusal :=
  alu 0xA4 .and (.reg .h) s

/-- `AND L` (R174). -/
def execAnd_L (s : State) : Host.Outcome State Fault Refusal :=
  alu 0xA5 .and (.reg .l) s

/-- `AND (HL)` (R174). -/
def execAnd_mHL (s : State) : Host.Outcome State Fault Refusal :=
  alu 0xA6 .and .memHL s

/-- `AND A` (R174). -/
def execAnd_A (s : State) : Host.Outcome State Fault Refusal :=
  alu 0xA7 .and (.reg .a) s

/-- `XOR B` (R175). -/
def execXor_B (s : State) : Host.Outcome State Fault Refusal :=
  alu 0xA8 .xor (.reg .b) s

/-- `XOR C` (R175). -/
def execXor_C (s : State) : Host.Outcome State Fault Refusal :=
  alu 0xA9 .xor (.reg .c) s

/-- `XOR D` (R175). -/
def execXor_D (s : State) : Host.Outcome State Fault Refusal :=
  alu 0xAA .xor (.reg .d) s

/-- `XOR E` (R175). -/
def execXor_E (s : State) : Host.Outcome State Fault Refusal :=
  alu 0xAB .xor (.reg .e) s

/-- `XOR H` (R175). -/
def execXor_H (s : State) : Host.Outcome State Fault Refusal :=
  alu 0xAC .xor (.reg .h) s

/-- `XOR L` (R175). -/
def execXor_L (s : State) : Host.Outcome State Fault Refusal :=
  alu 0xAD .xor (.reg .l) s

/-- `XOR (HL)` (R175). -/
def execXor_mHL (s : State) : Host.Outcome State Fault Refusal :=
  alu 0xAE .xor .memHL s

/-- `XOR A` (R175). -/
def execXor_A (s : State) : Host.Outcome State Fault Refusal :=
  alu 0xAF .xor (.reg .a) s

/-- `OR B` (R176). -/
def execOr_B (s : State) : Host.Outcome State Fault Refusal :=
  alu 0xB0 .or (.reg .b) s

/-- `OR C` (R176). -/
def execOr_C (s : State) : Host.Outcome State Fault Refusal :=
  alu 0xB1 .or (.reg .c) s

/-- `OR D` (R176). -/
def execOr_D (s : State) : Host.Outcome State Fault Refusal :=
  alu 0xB2 .or (.reg .d) s

/-- `OR E` (R176). -/
def execOr_E (s : State) : Host.Outcome State Fault Refusal :=
  alu 0xB3 .or (.reg .e) s

/-- `OR H` (R176). -/
def execOr_H (s : State) : Host.Outcome State Fault Refusal :=
  alu 0xB4 .or (.reg .h) s

/-- `OR L` (R176). -/
def execOr_L (s : State) : Host.Outcome State Fault Refusal :=
  alu 0xB5 .or (.reg .l) s

/-- `OR (HL)` (R176). -/
def execOr_mHL (s : State) : Host.Outcome State Fault Refusal :=
  alu 0xB6 .or .memHL s

/-- `OR A` (R176). -/
def execOr_A (s : State) : Host.Outcome State Fault Refusal :=
  alu 0xB7 .or (.reg .a) s

/-- `CP B` (R177). -/
def execCp_B (s : State) : Host.Outcome State Fault Refusal :=
  alu 0xB8 .cp (.reg .b) s

/-- `CP C` (R177). -/
def execCp_C (s : State) : Host.Outcome State Fault Refusal :=
  alu 0xB9 .cp (.reg .c) s

/-- `CP D` (R177). -/
def execCp_D (s : State) : Host.Outcome State Fault Refusal :=
  alu 0xBA .cp (.reg .d) s

/-- `CP E` (R177). -/
def execCp_E (s : State) : Host.Outcome State Fault Refusal :=
  alu 0xBB .cp (.reg .e) s

/-- `CP H` (R177). -/
def execCp_H (s : State) : Host.Outcome State Fault Refusal :=
  alu 0xBC .cp (.reg .h) s

/-- `CP L` (R177). -/
def execCp_L (s : State) : Host.Outcome State Fault Refusal :=
  alu 0xBD .cp (.reg .l) s

/-- `CP (HL)` (R177). -/
def execCp_mHL (s : State) : Host.Outcome State Fault Refusal :=
  alu 0xBE .cp .memHL s

/-- `CP A` (R177). -/
def execCp_A (s : State) : Host.Outcome State Fault Refusal :=
  alu 0xBF .cp (.reg .a) s

/-- `ADD A,n` (R170). -/
def execAdd_A_n (n : Byte) (s : State) : Host.Outcome State Fault Refusal :=
  alu 0xC6 .add (.imm n) s

/-- `ADC A,n` (R171). -/
def execAdc_A_n (n : Byte) (s : State) : Host.Outcome State Fault Refusal :=
  alu 0xCE .adc (.imm n) s

/-- `SUB n` (R172). -/
def execSub_n (n : Byte) (s : State) : Host.Outcome State Fault Refusal :=
  alu 0xD6 .sub (.imm n) s

/-- `SBC A,n` (R173). -/
def execSbc_A_n (n : Byte) (s : State) : Host.Outcome State Fault Refusal :=
  alu 0xDE .sbc (.imm n) s

/-- `AND n` (R174). -/
def execAnd_n (n : Byte) (s : State) : Host.Outcome State Fault Refusal :=
  alu 0xE6 .and (.imm n) s

/-- `XOR n` (R175). -/
def execXor_n (n : Byte) (s : State) : Host.Outcome State Fault Refusal :=
  alu 0xEE .xor (.imm n) s

/-- `OR n` (R176). -/
def execOr_n (n : Byte) (s : State) : Host.Outcome State Fault Refusal :=
  alu 0xF6 .or (.imm n) s

/-- `CP n` (R177). -/
def execCp_n (n : Byte) (s : State) : Host.Outcome State Fault Refusal :=
  alu 0xFE .cp (.imm n) s

end Sys2Proof.Machine
end

