-- ==== Sys2Proof/Machine/Alu16.lean ====
section
/-!
DEFINITION. 16-bit arithmetic instructions (rules R200 to R203).
-/
namespace Sys2Proof.Machine

/-- `ADD HL,rr` (R200): `rr` is read before HL is written. -/
def addHl (op : Nat) (p : Reg16) (s : State) : Host.Outcome State Fault Refusal :=
  let (r, fl) := addWordResult s.hl (s.reg16 p) s.flags
  .next ((((s.fetched 1).setHl r).setFlags fl).spend op 2)

/-- `INC rr` and `DEC rr` (R201, R202): `step` is 1 or -1, and no flag changes. -/
def stepPair (op : Nat) (p : Reg16) (step : Word) (s : State) : Host.Outcome State Fault Refusal :=
  .next (((s.fetched 1).setReg16 p (s.reg16 p + step)).spend op 2)

/-- `ADD SP,e` (R203). -/
def addSp (op : Nat) (e : Byte) (s : State) : Host.Outcome State Fault Refusal :=
  let (r, fl) := addSpResult s.sp e
  .next ((State.setFlags { s.fetched 2 with sp := r } fl).spend op 4)

/-- `INC BC` (R201). -/
def execInc_BC (s : State) : Host.Outcome State Fault Refusal :=
  stepPair 0x03 .bc 1 s

/-- `ADD HL,BC` (R200). -/
def execAdd_HL_BC (s : State) : Host.Outcome State Fault Refusal :=
  addHl 0x09 .bc s

/-- `DEC BC` (R202). -/
def execDec_BC (s : State) : Host.Outcome State Fault Refusal :=
  stepPair 0x0B .bc (-1) s

/-- `INC DE` (R201). -/
def execInc_DE (s : State) : Host.Outcome State Fault Refusal :=
  stepPair 0x13 .de 1 s

/-- `ADD HL,DE` (R200). -/
def execAdd_HL_DE (s : State) : Host.Outcome State Fault Refusal :=
  addHl 0x19 .de s

/-- `DEC DE` (R202). -/
def execDec_DE (s : State) : Host.Outcome State Fault Refusal :=
  stepPair 0x1B .de (-1) s

/-- `INC HL` (R201). -/
def execInc_HL (s : State) : Host.Outcome State Fault Refusal :=
  stepPair 0x23 .hl 1 s

/-- `ADD HL,HL` (R200). -/
def execAdd_HL_HL (s : State) : Host.Outcome State Fault Refusal :=
  addHl 0x29 .hl s

/-- `DEC HL` (R202). -/
def execDec_HL (s : State) : Host.Outcome State Fault Refusal :=
  stepPair 0x2B .hl (-1) s

/-- `INC SP` (R201). -/
def execInc_SP (s : State) : Host.Outcome State Fault Refusal :=
  stepPair 0x33 .sp 1 s

/-- `ADD HL,SP` (R200). -/
def execAdd_HL_SP (s : State) : Host.Outcome State Fault Refusal :=
  addHl 0x39 .sp s

/-- `DEC SP` (R202). -/
def execDec_SP (s : State) : Host.Outcome State Fault Refusal :=
  stepPair 0x3B .sp (-1) s

/-- `ADD SP,e` (R203). -/
def execAdd_SP_e (e : Byte) (s : State) : Host.Outcome State Fault Refusal :=
  addSp 0xE8 e s

end Sys2Proof.Machine
end

