-- ==== Sys2Proof/Machine/Rotate.lean ====
section
/-!
DEFINITION. Rotates and shifts: the four accumulator rotates of the base table (rules R210 to R213) and the 64
rotates, shifts and SWAPs of the CB table (rules R214 to R222).
-/
namespace Sys2Proof.Machine

/-- `RLCA`, `RRCA`, `RLA`, `RRA` (R210 to R213). -/
def rotateAcc (op : Nat) (k : RotOp) (s : State) : Host.Outcome State Fault Refusal :=
  accFlags op (rotAccResult k s.a s.flags) s

/-- A CB-table rotate or shift (R214 to R222): the result is written back always. -/
def rotatePlace (op : Nat) (k : RotOp) (x : Place) (s : State) : Host.Outcome State Fault Refusal :=
  let (r, fl) := rotResult k (s.readPlace x) s.flags
  .next ((((s.fetched 2).setFlags fl).writePlace x r).spend op x.costWrite)

/-- `RLCA` (R210). -/
def execRlca (s : State) : Host.Outcome State Fault Refusal :=
  rotateAcc 0x07 .rlc s

/-- `RRCA` (R211). -/
def execRrca (s : State) : Host.Outcome State Fault Refusal :=
  rotateAcc 0x0F .rrc s

/-- `RLA` (R212). -/
def execRla (s : State) : Host.Outcome State Fault Refusal :=
  rotateAcc 0x17 .rl s

/-- `RRA` (R213). -/
def execRra (s : State) : Host.Outcome State Fault Refusal :=
  rotateAcc 0x1F .rr s

/-- `RLC B` (R215). -/
def execRlc_B (s : State) : Host.Outcome State Fault Refusal :=
  rotatePlace 0xCB00 .rlc (.reg .b) s

/-- `RLC C` (R215). -/
def execRlc_C (s : State) : Host.Outcome State Fault Refusal :=
  rotatePlace 0xCB01 .rlc (.reg .c) s

/-- `RLC D` (R215). -/
def execRlc_D (s : State) : Host.Outcome State Fault Refusal :=
  rotatePlace 0xCB02 .rlc (.reg .d) s

/-- `RLC E` (R215). -/
def execRlc_E (s : State) : Host.Outcome State Fault Refusal :=
  rotatePlace 0xCB03 .rlc (.reg .e) s

/-- `RLC H` (R215). -/
def execRlc_H (s : State) : Host.Outcome State Fault Refusal :=
  rotatePlace 0xCB04 .rlc (.reg .h) s

/-- `RLC L` (R215). -/
def execRlc_L (s : State) : Host.Outcome State Fault Refusal :=
  rotatePlace 0xCB05 .rlc (.reg .l) s

/-- `RLC (HL)` (R215). -/
def execRlc_mHL (s : State) : Host.Outcome State Fault Refusal :=
  rotatePlace 0xCB06 .rlc .memHL s

/-- `RLC A` (R215). -/
def execRlc_A (s : State) : Host.Outcome State Fault Refusal :=
  rotatePlace 0xCB07 .rlc (.reg .a) s

/-- `RRC B` (R216). -/
def execRrc_B (s : State) : Host.Outcome State Fault Refusal :=
  rotatePlace 0xCB08 .rrc (.reg .b) s

/-- `RRC C` (R216). -/
def execRrc_C (s : State) : Host.Outcome State Fault Refusal :=
  rotatePlace 0xCB09 .rrc (.reg .c) s

/-- `RRC D` (R216). -/
def execRrc_D (s : State) : Host.Outcome State Fault Refusal :=
  rotatePlace 0xCB0A .rrc (.reg .d) s

/-- `RRC E` (R216). -/
def execRrc_E (s : State) : Host.Outcome State Fault Refusal :=
  rotatePlace 0xCB0B .rrc (.reg .e) s

/-- `RRC H` (R216). -/
def execRrc_H (s : State) : Host.Outcome State Fault Refusal :=
  rotatePlace 0xCB0C .rrc (.reg .h) s

/-- `RRC L` (R216). -/
def execRrc_L (s : State) : Host.Outcome State Fault Refusal :=
  rotatePlace 0xCB0D .rrc (.reg .l) s

/-- `RRC (HL)` (R216). -/
def execRrc_mHL (s : State) : Host.Outcome State Fault Refusal :=
  rotatePlace 0xCB0E .rrc .memHL s

/-- `RRC A` (R216). -/
def execRrc_A (s : State) : Host.Outcome State Fault Refusal :=
  rotatePlace 0xCB0F .rrc (.reg .a) s

/-- `RL B` (R217). -/
def execRl_B (s : State) : Host.Outcome State Fault Refusal :=
  rotatePlace 0xCB10 .rl (.reg .b) s

/-- `RL C` (R217). -/
def execRl_C (s : State) : Host.Outcome State Fault Refusal :=
  rotatePlace 0xCB11 .rl (.reg .c) s

/-- `RL D` (R217). -/
def execRl_D (s : State) : Host.Outcome State Fault Refusal :=
  rotatePlace 0xCB12 .rl (.reg .d) s

/-- `RL E` (R217). -/
def execRl_E (s : State) : Host.Outcome State Fault Refusal :=
  rotatePlace 0xCB13 .rl (.reg .e) s

/-- `RL H` (R217). -/
def execRl_H (s : State) : Host.Outcome State Fault Refusal :=
  rotatePlace 0xCB14 .rl (.reg .h) s

/-- `RL L` (R217). -/
def execRl_L (s : State) : Host.Outcome State Fault Refusal :=
  rotatePlace 0xCB15 .rl (.reg .l) s

/-- `RL (HL)` (R217). -/
def execRl_mHL (s : State) : Host.Outcome State Fault Refusal :=
  rotatePlace 0xCB16 .rl .memHL s

/-- `RL A` (R217). -/
def execRl_A (s : State) : Host.Outcome State Fault Refusal :=
  rotatePlace 0xCB17 .rl (.reg .a) s

/-- `RR B` (R218). -/
def execRr_B (s : State) : Host.Outcome State Fault Refusal :=
  rotatePlace 0xCB18 .rr (.reg .b) s

/-- `RR C` (R218). -/
def execRr_C (s : State) : Host.Outcome State Fault Refusal :=
  rotatePlace 0xCB19 .rr (.reg .c) s

/-- `RR D` (R218). -/
def execRr_D (s : State) : Host.Outcome State Fault Refusal :=
  rotatePlace 0xCB1A .rr (.reg .d) s

/-- `RR E` (R218). -/
def execRr_E (s : State) : Host.Outcome State Fault Refusal :=
  rotatePlace 0xCB1B .rr (.reg .e) s

/-- `RR H` (R218). -/
def execRr_H (s : State) : Host.Outcome State Fault Refusal :=
  rotatePlace 0xCB1C .rr (.reg .h) s

/-- `RR L` (R218). -/
def execRr_L (s : State) : Host.Outcome State Fault Refusal :=
  rotatePlace 0xCB1D .rr (.reg .l) s

/-- `RR (HL)` (R218). -/
def execRr_mHL (s : State) : Host.Outcome State Fault Refusal :=
  rotatePlace 0xCB1E .rr .memHL s

/-- `RR A` (R218). -/
def execRr_A (s : State) : Host.Outcome State Fault Refusal :=
  rotatePlace 0xCB1F .rr (.reg .a) s

/-- `SLA B` (R219). -/
def execSla_B (s : State) : Host.Outcome State Fault Refusal :=
  rotatePlace 0xCB20 .sla (.reg .b) s

/-- `SLA C` (R219). -/
def execSla_C (s : State) : Host.Outcome State Fault Refusal :=
  rotatePlace 0xCB21 .sla (.reg .c) s

/-- `SLA D` (R219). -/
def execSla_D (s : State) : Host.Outcome State Fault Refusal :=
  rotatePlace 0xCB22 .sla (.reg .d) s

/-- `SLA E` (R219). -/
def execSla_E (s : State) : Host.Outcome State Fault Refusal :=
  rotatePlace 0xCB23 .sla (.reg .e) s

/-- `SLA H` (R219). -/
def execSla_H (s : State) : Host.Outcome State Fault Refusal :=
  rotatePlace 0xCB24 .sla (.reg .h) s

/-- `SLA L` (R219). -/
def execSla_L (s : State) : Host.Outcome State Fault Refusal :=
  rotatePlace 0xCB25 .sla (.reg .l) s

/-- `SLA (HL)` (R219). -/
def execSla_mHL (s : State) : Host.Outcome State Fault Refusal :=
  rotatePlace 0xCB26 .sla .memHL s

/-- `SLA A` (R219). -/
def execSla_A (s : State) : Host.Outcome State Fault Refusal :=
  rotatePlace 0xCB27 .sla (.reg .a) s

/-- `SRA B` (R220). -/
def execSra_B (s : State) : Host.Outcome State Fault Refusal :=
  rotatePlace 0xCB28 .sra (.reg .b) s

/-- `SRA C` (R220). -/
def execSra_C (s : State) : Host.Outcome State Fault Refusal :=
  rotatePlace 0xCB29 .sra (.reg .c) s

/-- `SRA D` (R220). -/
def execSra_D (s : State) : Host.Outcome State Fault Refusal :=
  rotatePlace 0xCB2A .sra (.reg .d) s

/-- `SRA E` (R220). -/
def execSra_E (s : State) : Host.Outcome State Fault Refusal :=
  rotatePlace 0xCB2B .sra (.reg .e) s

/-- `SRA H` (R220). -/
def execSra_H (s : State) : Host.Outcome State Fault Refusal :=
  rotatePlace 0xCB2C .sra (.reg .h) s

/-- `SRA L` (R220). -/
def execSra_L (s : State) : Host.Outcome State Fault Refusal :=
  rotatePlace 0xCB2D .sra (.reg .l) s

/-- `SRA (HL)` (R220). -/
def execSra_mHL (s : State) : Host.Outcome State Fault Refusal :=
  rotatePlace 0xCB2E .sra .memHL s

/-- `SRA A` (R220). -/
def execSra_A (s : State) : Host.Outcome State Fault Refusal :=
  rotatePlace 0xCB2F .sra (.reg .a) s

/-- `SWAP B` (R221). -/
def execSwap_B (s : State) : Host.Outcome State Fault Refusal :=
  rotatePlace 0xCB30 .swap (.reg .b) s

/-- `SWAP C` (R221). -/
def execSwap_C (s : State) : Host.Outcome State Fault Refusal :=
  rotatePlace 0xCB31 .swap (.reg .c) s

/-- `SWAP D` (R221). -/
def execSwap_D (s : State) : Host.Outcome State Fault Refusal :=
  rotatePlace 0xCB32 .swap (.reg .d) s

/-- `SWAP E` (R221). -/
def execSwap_E (s : State) : Host.Outcome State Fault Refusal :=
  rotatePlace 0xCB33 .swap (.reg .e) s

/-- `SWAP H` (R221). -/
def execSwap_H (s : State) : Host.Outcome State Fault Refusal :=
  rotatePlace 0xCB34 .swap (.reg .h) s

/-- `SWAP L` (R221). -/
def execSwap_L (s : State) : Host.Outcome State Fault Refusal :=
  rotatePlace 0xCB35 .swap (.reg .l) s

/-- `SWAP (HL)` (R221). -/
def execSwap_mHL (s : State) : Host.Outcome State Fault Refusal :=
  rotatePlace 0xCB36 .swap .memHL s

/-- `SWAP A` (R221). -/
def execSwap_A (s : State) : Host.Outcome State Fault Refusal :=
  rotatePlace 0xCB37 .swap (.reg .a) s

/-- `SRL B` (R222). -/
def execSrl_B (s : State) : Host.Outcome State Fault Refusal :=
  rotatePlace 0xCB38 .srl (.reg .b) s

/-- `SRL C` (R222). -/
def execSrl_C (s : State) : Host.Outcome State Fault Refusal :=
  rotatePlace 0xCB39 .srl (.reg .c) s

/-- `SRL D` (R222). -/
def execSrl_D (s : State) : Host.Outcome State Fault Refusal :=
  rotatePlace 0xCB3A .srl (.reg .d) s

/-- `SRL E` (R222). -/
def execSrl_E (s : State) : Host.Outcome State Fault Refusal :=
  rotatePlace 0xCB3B .srl (.reg .e) s

/-- `SRL H` (R222). -/
def execSrl_H (s : State) : Host.Outcome State Fault Refusal :=
  rotatePlace 0xCB3C .srl (.reg .h) s

/-- `SRL L` (R222). -/
def execSrl_L (s : State) : Host.Outcome State Fault Refusal :=
  rotatePlace 0xCB3D .srl (.reg .l) s

/-- `SRL (HL)` (R222). -/
def execSrl_mHL (s : State) : Host.Outcome State Fault Refusal :=
  rotatePlace 0xCB3E .srl .memHL s

/-- `SRL A` (R222). -/
def execSrl_A (s : State) : Host.Outcome State Fault Refusal :=
  rotatePlace 0xCB3F .srl (.reg .a) s

end Sys2Proof.Machine
end

