-- ==== Sys2Proof/Machine/Bit.lean ====
section
/-!
DEFINITION. BIT, RES and SET of the CB table (rules R214, R225 to R227).
-/
namespace Sys2Proof.Machine

/-- `BIT b,x` (R225): the operand is read and nothing is written back. -/
def testBit (op : Nat) (bit : Nat) (x : Place) (s : State) : Host.Outcome State Fault Refusal :=
  .next (((s.fetched 2).setFlags (bitFlags bit (s.readPlace x) s.flags)).spend op x.costRead)

/-- `RES b,x` and `SET b,x` (R226, R227): the changed byte is written back always, and no flag changes. -/
def changeBit (op : Nat) (change : Byte → Byte) (x : Place) (s : State) : Host.Outcome State Fault Refusal :=
  .next (((s.fetched 2).writePlace x (change (s.readPlace x))).spend op x.costWrite)

/-- `BIT 0,B` (R225). -/
def execBit_0_B (s : State) : Host.Outcome State Fault Refusal :=
  testBit 0xCB40 0 (.reg .b) s

/-- `BIT 0,C` (R225). -/
def execBit_0_C (s : State) : Host.Outcome State Fault Refusal :=
  testBit 0xCB41 0 (.reg .c) s

/-- `BIT 0,D` (R225). -/
def execBit_0_D (s : State) : Host.Outcome State Fault Refusal :=
  testBit 0xCB42 0 (.reg .d) s

/-- `BIT 0,E` (R225). -/
def execBit_0_E (s : State) : Host.Outcome State Fault Refusal :=
  testBit 0xCB43 0 (.reg .e) s

/-- `BIT 0,H` (R225). -/
def execBit_0_H (s : State) : Host.Outcome State Fault Refusal :=
  testBit 0xCB44 0 (.reg .h) s

/-- `BIT 0,L` (R225). -/
def execBit_0_L (s : State) : Host.Outcome State Fault Refusal :=
  testBit 0xCB45 0 (.reg .l) s

/-- `BIT 0,(HL)` (R225). -/
def execBit_0_mHL (s : State) : Host.Outcome State Fault Refusal :=
  testBit 0xCB46 0 .memHL s

/-- `BIT 0,A` (R225). -/
def execBit_0_A (s : State) : Host.Outcome State Fault Refusal :=
  testBit 0xCB47 0 (.reg .a) s

/-- `BIT 1,B` (R225). -/
def execBit_1_B (s : State) : Host.Outcome State Fault Refusal :=
  testBit 0xCB48 1 (.reg .b) s

/-- `BIT 1,C` (R225). -/
def execBit_1_C (s : State) : Host.Outcome State Fault Refusal :=
  testBit 0xCB49 1 (.reg .c) s

/-- `BIT 1,D` (R225). -/
def execBit_1_D (s : State) : Host.Outcome State Fault Refusal :=
  testBit 0xCB4A 1 (.reg .d) s

/-- `BIT 1,E` (R225). -/
def execBit_1_E (s : State) : Host.Outcome State Fault Refusal :=
  testBit 0xCB4B 1 (.reg .e) s

/-- `BIT 1,H` (R225). -/
def execBit_1_H (s : State) : Host.Outcome State Fault Refusal :=
  testBit 0xCB4C 1 (.reg .h) s

/-- `BIT 1,L` (R225). -/
def execBit_1_L (s : State) : Host.Outcome State Fault Refusal :=
  testBit 0xCB4D 1 (.reg .l) s

/-- `BIT 1,(HL)` (R225). -/
def execBit_1_mHL (s : State) : Host.Outcome State Fault Refusal :=
  testBit 0xCB4E 1 .memHL s

/-- `BIT 1,A` (R225). -/
def execBit_1_A (s : State) : Host.Outcome State Fault Refusal :=
  testBit 0xCB4F 1 (.reg .a) s

/-- `BIT 2,B` (R225). -/
def execBit_2_B (s : State) : Host.Outcome State Fault Refusal :=
  testBit 0xCB50 2 (.reg .b) s

/-- `BIT 2,C` (R225). -/
def execBit_2_C (s : State) : Host.Outcome State Fault Refusal :=
  testBit 0xCB51 2 (.reg .c) s

/-- `BIT 2,D` (R225). -/
def execBit_2_D (s : State) : Host.Outcome State Fault Refusal :=
  testBit 0xCB52 2 (.reg .d) s

/-- `BIT 2,E` (R225). -/
def execBit_2_E (s : State) : Host.Outcome State Fault Refusal :=
  testBit 0xCB53 2 (.reg .e) s

/-- `BIT 2,H` (R225). -/
def execBit_2_H (s : State) : Host.Outcome State Fault Refusal :=
  testBit 0xCB54 2 (.reg .h) s

/-- `BIT 2,L` (R225). -/
def execBit_2_L (s : State) : Host.Outcome State Fault Refusal :=
  testBit 0xCB55 2 (.reg .l) s

/-- `BIT 2,(HL)` (R225). -/
def execBit_2_mHL (s : State) : Host.Outcome State Fault Refusal :=
  testBit 0xCB56 2 .memHL s

/-- `BIT 2,A` (R225). -/
def execBit_2_A (s : State) : Host.Outcome State Fault Refusal :=
  testBit 0xCB57 2 (.reg .a) s

/-- `BIT 3,B` (R225). -/
def execBit_3_B (s : State) : Host.Outcome State Fault Refusal :=
  testBit 0xCB58 3 (.reg .b) s

/-- `BIT 3,C` (R225). -/
def execBit_3_C (s : State) : Host.Outcome State Fault Refusal :=
  testBit 0xCB59 3 (.reg .c) s

/-- `BIT 3,D` (R225). -/
def execBit_3_D (s : State) : Host.Outcome State Fault Refusal :=
  testBit 0xCB5A 3 (.reg .d) s

/-- `BIT 3,E` (R225). -/
def execBit_3_E (s : State) : Host.Outcome State Fault Refusal :=
  testBit 0xCB5B 3 (.reg .e) s

/-- `BIT 3,H` (R225). -/
def execBit_3_H (s : State) : Host.Outcome State Fault Refusal :=
  testBit 0xCB5C 3 (.reg .h) s

/-- `BIT 3,L` (R225). -/
def execBit_3_L (s : State) : Host.Outcome State Fault Refusal :=
  testBit 0xCB5D 3 (.reg .l) s

/-- `BIT 3,(HL)` (R225). -/
def execBit_3_mHL (s : State) : Host.Outcome State Fault Refusal :=
  testBit 0xCB5E 3 .memHL s

/-- `BIT 3,A` (R225). -/
def execBit_3_A (s : State) : Host.Outcome State Fault Refusal :=
  testBit 0xCB5F 3 (.reg .a) s

/-- `BIT 4,B` (R225). -/
def execBit_4_B (s : State) : Host.Outcome State Fault Refusal :=
  testBit 0xCB60 4 (.reg .b) s

/-- `BIT 4,C` (R225). -/
def execBit_4_C (s : State) : Host.Outcome State Fault Refusal :=
  testBit 0xCB61 4 (.reg .c) s

/-- `BIT 4,D` (R225). -/
def execBit_4_D (s : State) : Host.Outcome State Fault Refusal :=
  testBit 0xCB62 4 (.reg .d) s

/-- `BIT 4,E` (R225). -/
def execBit_4_E (s : State) : Host.Outcome State Fault Refusal :=
  testBit 0xCB63 4 (.reg .e) s

/-- `BIT 4,H` (R225). -/
def execBit_4_H (s : State) : Host.Outcome State Fault Refusal :=
  testBit 0xCB64 4 (.reg .h) s

/-- `BIT 4,L` (R225). -/
def execBit_4_L (s : State) : Host.Outcome State Fault Refusal :=
  testBit 0xCB65 4 (.reg .l) s

/-- `BIT 4,(HL)` (R225). -/
def execBit_4_mHL (s : State) : Host.Outcome State Fault Refusal :=
  testBit 0xCB66 4 .memHL s

/-- `BIT 4,A` (R225). -/
def execBit_4_A (s : State) : Host.Outcome State Fault Refusal :=
  testBit 0xCB67 4 (.reg .a) s

/-- `BIT 5,B` (R225). -/
def execBit_5_B (s : State) : Host.Outcome State Fault Refusal :=
  testBit 0xCB68 5 (.reg .b) s

/-- `BIT 5,C` (R225). -/
def execBit_5_C (s : State) : Host.Outcome State Fault Refusal :=
  testBit 0xCB69 5 (.reg .c) s

/-- `BIT 5,D` (R225). -/
def execBit_5_D (s : State) : Host.Outcome State Fault Refusal :=
  testBit 0xCB6A 5 (.reg .d) s

/-- `BIT 5,E` (R225). -/
def execBit_5_E (s : State) : Host.Outcome State Fault Refusal :=
  testBit 0xCB6B 5 (.reg .e) s

/-- `BIT 5,H` (R225). -/
def execBit_5_H (s : State) : Host.Outcome State Fault Refusal :=
  testBit 0xCB6C 5 (.reg .h) s

/-- `BIT 5,L` (R225). -/
def execBit_5_L (s : State) : Host.Outcome State Fault Refusal :=
  testBit 0xCB6D 5 (.reg .l) s

/-- `BIT 5,(HL)` (R225). -/
def execBit_5_mHL (s : State) : Host.Outcome State Fault Refusal :=
  testBit 0xCB6E 5 .memHL s

/-- `BIT 5,A` (R225). -/
def execBit_5_A (s : State) : Host.Outcome State Fault Refusal :=
  testBit 0xCB6F 5 (.reg .a) s

/-- `BIT 6,B` (R225). -/
def execBit_6_B (s : State) : Host.Outcome State Fault Refusal :=
  testBit 0xCB70 6 (.reg .b) s

/-- `BIT 6,C` (R225). -/
def execBit_6_C (s : State) : Host.Outcome State Fault Refusal :=
  testBit 0xCB71 6 (.reg .c) s

/-- `BIT 6,D` (R225). -/
def execBit_6_D (s : State) : Host.Outcome State Fault Refusal :=
  testBit 0xCB72 6 (.reg .d) s

/-- `BIT 6,E` (R225). -/
def execBit_6_E (s : State) : Host.Outcome State Fault Refusal :=
  testBit 0xCB73 6 (.reg .e) s

/-- `BIT 6,H` (R225). -/
def execBit_6_H (s : State) : Host.Outcome State Fault Refusal :=
  testBit 0xCB74 6 (.reg .h) s

/-- `BIT 6,L` (R225). -/
def execBit_6_L (s : State) : Host.Outcome State Fault Refusal :=
  testBit 0xCB75 6 (.reg .l) s

/-- `BIT 6,(HL)` (R225). -/
def execBit_6_mHL (s : State) : Host.Outcome State Fault Refusal :=
  testBit 0xCB76 6 .memHL s

/-- `BIT 6,A` (R225). -/
def execBit_6_A (s : State) : Host.Outcome State Fault Refusal :=
  testBit 0xCB77 6 (.reg .a) s

/-- `BIT 7,B` (R225). -/
def execBit_7_B (s : State) : Host.Outcome State Fault Refusal :=
  testBit 0xCB78 7 (.reg .b) s

/-- `BIT 7,C` (R225). -/
def execBit_7_C (s : State) : Host.Outcome State Fault Refusal :=
  testBit 0xCB79 7 (.reg .c) s

/-- `BIT 7,D` (R225). -/
def execBit_7_D (s : State) : Host.Outcome State Fault Refusal :=
  testBit 0xCB7A 7 (.reg .d) s

/-- `BIT 7,E` (R225). -/
def execBit_7_E (s : State) : Host.Outcome State Fault Refusal :=
  testBit 0xCB7B 7 (.reg .e) s

/-- `BIT 7,H` (R225). -/
def execBit_7_H (s : State) : Host.Outcome State Fault Refusal :=
  testBit 0xCB7C 7 (.reg .h) s

/-- `BIT 7,L` (R225). -/
def execBit_7_L (s : State) : Host.Outcome State Fault Refusal :=
  testBit 0xCB7D 7 (.reg .l) s

/-- `BIT 7,(HL)` (R225). -/
def execBit_7_mHL (s : State) : Host.Outcome State Fault Refusal :=
  testBit 0xCB7E 7 .memHL s

/-- `BIT 7,A` (R225). -/
def execBit_7_A (s : State) : Host.Outcome State Fault Refusal :=
  testBit 0xCB7F 7 (.reg .a) s

/-- `RES 0,B` (R226). -/
def execRes_0_B (s : State) : Host.Outcome State Fault Refusal :=
  changeBit 0xCB80 (resetBit 0) (.reg .b) s

/-- `RES 0,C` (R226). -/
def execRes_0_C (s : State) : Host.Outcome State Fault Refusal :=
  changeBit 0xCB81 (resetBit 0) (.reg .c) s

/-- `RES 0,D` (R226). -/
def execRes_0_D (s : State) : Host.Outcome State Fault Refusal :=
  changeBit 0xCB82 (resetBit 0) (.reg .d) s

/-- `RES 0,E` (R226). -/
def execRes_0_E (s : State) : Host.Outcome State Fault Refusal :=
  changeBit 0xCB83 (resetBit 0) (.reg .e) s

/-- `RES 0,H` (R226). -/
def execRes_0_H (s : State) : Host.Outcome State Fault Refusal :=
  changeBit 0xCB84 (resetBit 0) (.reg .h) s

/-- `RES 0,L` (R226). -/
def execRes_0_L (s : State) : Host.Outcome State Fault Refusal :=
  changeBit 0xCB85 (resetBit 0) (.reg .l) s

/-- `RES 0,(HL)` (R226). -/
def execRes_0_mHL (s : State) : Host.Outcome State Fault Refusal :=
  changeBit 0xCB86 (resetBit 0) .memHL s

/-- `RES 0,A` (R226). -/
def execRes_0_A (s : State) : Host.Outcome State Fault Refusal :=
  changeBit 0xCB87 (resetBit 0) (.reg .a) s

/-- `RES 1,B` (R226). -/
def execRes_1_B (s : State) : Host.Outcome State Fault Refusal :=
  changeBit 0xCB88 (resetBit 1) (.reg .b) s

/-- `RES 1,C` (R226). -/
def execRes_1_C (s : State) : Host.Outcome State Fault Refusal :=
  changeBit 0xCB89 (resetBit 1) (.reg .c) s

/-- `RES 1,D` (R226). -/
def execRes_1_D (s : State) : Host.Outcome State Fault Refusal :=
  changeBit 0xCB8A (resetBit 1) (.reg .d) s

/-- `RES 1,E` (R226). -/
def execRes_1_E (s : State) : Host.Outcome State Fault Refusal :=
  changeBit 0xCB8B (resetBit 1) (.reg .e) s

/-- `RES 1,H` (R226). -/
def execRes_1_H (s : State) : Host.Outcome State Fault Refusal :=
  changeBit 0xCB8C (resetBit 1) (.reg .h) s

/-- `RES 1,L` (R226). -/
def execRes_1_L (s : State) : Host.Outcome State Fault Refusal :=
  changeBit 0xCB8D (resetBit 1) (.reg .l) s

/-- `RES 1,(HL)` (R226). -/
def execRes_1_mHL (s : State) : Host.Outcome State Fault Refusal :=
  changeBit 0xCB8E (resetBit 1) .memHL s

/-- `RES 1,A` (R226). -/
def execRes_1_A (s : State) : Host.Outcome State Fault Refusal :=
  changeBit 0xCB8F (resetBit 1) (.reg .a) s

/-- `RES 2,B` (R226). -/
def execRes_2_B (s : State) : Host.Outcome State Fault Refusal :=
  changeBit 0xCB90 (resetBit 2) (.reg .b) s

/-- `RES 2,C` (R226). -/
def execRes_2_C (s : State) : Host.Outcome State Fault Refusal :=
  changeBit 0xCB91 (resetBit 2) (.reg .c) s

/-- `RES 2,D` (R226). -/
def execRes_2_D (s : State) : Host.Outcome State Fault Refusal :=
  changeBit 0xCB92 (resetBit 2) (.reg .d) s

/-- `RES 2,E` (R226). -/
def execRes_2_E (s : State) : Host.Outcome State Fault Refusal :=
  changeBit 0xCB93 (resetBit 2) (.reg .e) s

/-- `RES 2,H` (R226). -/
def execRes_2_H (s : State) : Host.Outcome State Fault Refusal :=
  changeBit 0xCB94 (resetBit 2) (.reg .h) s

/-- `RES 2,L` (R226). -/
def execRes_2_L (s : State) : Host.Outcome State Fault Refusal :=
  changeBit 0xCB95 (resetBit 2) (.reg .l) s

/-- `RES 2,(HL)` (R226). -/
def execRes_2_mHL (s : State) : Host.Outcome State Fault Refusal :=
  changeBit 0xCB96 (resetBit 2) .memHL s

/-- `RES 2,A` (R226). -/
def execRes_2_A (s : State) : Host.Outcome State Fault Refusal :=
  changeBit 0xCB97 (resetBit 2) (.reg .a) s

/-- `RES 3,B` (R226). -/
def execRes_3_B (s : State) : Host.Outcome State Fault Refusal :=
  changeBit 0xCB98 (resetBit 3) (.reg .b) s

/-- `RES 3,C` (R226). -/
def execRes_3_C (s : State) : Host.Outcome State Fault Refusal :=
  changeBit 0xCB99 (resetBit 3) (.reg .c) s

/-- `RES 3,D` (R226). -/
def execRes_3_D (s : State) : Host.Outcome State Fault Refusal :=
  changeBit 0xCB9A (resetBit 3) (.reg .d) s

/-- `RES 3,E` (R226). -/
def execRes_3_E (s : State) : Host.Outcome State Fault Refusal :=
  changeBit 0xCB9B (resetBit 3) (.reg .e) s

/-- `RES 3,H` (R226). -/
def execRes_3_H (s : State) : Host.Outcome State Fault Refusal :=
  changeBit 0xCB9C (resetBit 3) (.reg .h) s

/-- `RES 3,L` (R226). -/
def execRes_3_L (s : State) : Host.Outcome State Fault Refusal :=
  changeBit 0xCB9D (resetBit 3) (.reg .l) s

/-- `RES 3,(HL)` (R226). -/
def execRes_3_mHL (s : State) : Host.Outcome State Fault Refusal :=
  changeBit 0xCB9E (resetBit 3) .memHL s

/-- `RES 3,A` (R226). -/
def execRes_3_A (s : State) : Host.Outcome State Fault Refusal :=
  changeBit 0xCB9F (resetBit 3) (.reg .a) s

/-- `RES 4,B` (R226). -/
def execRes_4_B (s : State) : Host.Outcome State Fault Refusal :=
  changeBit 0xCBA0 (resetBit 4) (.reg .b) s

/-- `RES 4,C` (R226). -/
def execRes_4_C (s : State) : Host.Outcome State Fault Refusal :=
  changeBit 0xCBA1 (resetBit 4) (.reg .c) s

/-- `RES 4,D` (R226). -/
def execRes_4_D (s : State) : Host.Outcome State Fault Refusal :=
  changeBit 0xCBA2 (resetBit 4) (.reg .d) s

/-- `RES 4,E` (R226). -/
def execRes_4_E (s : State) : Host.Outcome State Fault Refusal :=
  changeBit 0xCBA3 (resetBit 4) (.reg .e) s

/-- `RES 4,H` (R226). -/
def execRes_4_H (s : State) : Host.Outcome State Fault Refusal :=
  changeBit 0xCBA4 (resetBit 4) (.reg .h) s

/-- `RES 4,L` (R226). -/
def execRes_4_L (s : State) : Host.Outcome State Fault Refusal :=
  changeBit 0xCBA5 (resetBit 4) (.reg .l) s

/-- `RES 4,(HL)` (R226). -/
def execRes_4_mHL (s : State) : Host.Outcome State Fault Refusal :=
  changeBit 0xCBA6 (resetBit 4) .memHL s

/-- `RES 4,A` (R226). -/
def execRes_4_A (s : State) : Host.Outcome State Fault Refusal :=
  changeBit 0xCBA7 (resetBit 4) (.reg .a) s

/-- `RES 5,B` (R226). -/
def execRes_5_B (s : State) : Host.Outcome State Fault Refusal :=
  changeBit 0xCBA8 (resetBit 5) (.reg .b) s

/-- `RES 5,C` (R226). -/
def execRes_5_C (s : State) : Host.Outcome State Fault Refusal :=
  changeBit 0xCBA9 (resetBit 5) (.reg .c) s

/-- `RES 5,D` (R226). -/
def execRes_5_D (s : State) : Host.Outcome State Fault Refusal :=
  changeBit 0xCBAA (resetBit 5) (.reg .d) s

/-- `RES 5,E` (R226). -/
def execRes_5_E (s : State) : Host.Outcome State Fault Refusal :=
  changeBit 0xCBAB (resetBit 5) (.reg .e) s

/-- `RES 5,H` (R226). -/
def execRes_5_H (s : State) : Host.Outcome State Fault Refusal :=
  changeBit 0xCBAC (resetBit 5) (.reg .h) s

/-- `RES 5,L` (R226). -/
def execRes_5_L (s : State) : Host.Outcome State Fault Refusal :=
  changeBit 0xCBAD (resetBit 5) (.reg .l) s

/-- `RES 5,(HL)` (R226). -/
def execRes_5_mHL (s : State) : Host.Outcome State Fault Refusal :=
  changeBit 0xCBAE (resetBit 5) .memHL s

/-- `RES 5,A` (R226). -/
def execRes_5_A (s : State) : Host.Outcome State Fault Refusal :=
  changeBit 0xCBAF (resetBit 5) (.reg .a) s

/-- `RES 6,B` (R226). -/
def execRes_6_B (s : State) : Host.Outcome State Fault Refusal :=
  changeBit 0xCBB0 (resetBit 6) (.reg .b) s

/-- `RES 6,C` (R226). -/
def execRes_6_C (s : State) : Host.Outcome State Fault Refusal :=
  changeBit 0xCBB1 (resetBit 6) (.reg .c) s

/-- `RES 6,D` (R226). -/
def execRes_6_D (s : State) : Host.Outcome State Fault Refusal :=
  changeBit 0xCBB2 (resetBit 6) (.reg .d) s

/-- `RES 6,E` (R226). -/
def execRes_6_E (s : State) : Host.Outcome State Fault Refusal :=
  changeBit 0xCBB3 (resetBit 6) (.reg .e) s

/-- `RES 6,H` (R226). -/
def execRes_6_H (s : State) : Host.Outcome State Fault Refusal :=
  changeBit 0xCBB4 (resetBit 6) (.reg .h) s

/-- `RES 6,L` (R226). -/
def execRes_6_L (s : State) : Host.Outcome State Fault Refusal :=
  changeBit 0xCBB5 (resetBit 6) (.reg .l) s

/-- `RES 6,(HL)` (R226). -/
def execRes_6_mHL (s : State) : Host.Outcome State Fault Refusal :=
  changeBit 0xCBB6 (resetBit 6) .memHL s

/-- `RES 6,A` (R226). -/
def execRes_6_A (s : State) : Host.Outcome State Fault Refusal :=
  changeBit 0xCBB7 (resetBit 6) (.reg .a) s

/-- `RES 7,B` (R226). -/
def execRes_7_B (s : State) : Host.Outcome State Fault Refusal :=
  changeBit 0xCBB8 (resetBit 7) (.reg .b) s

/-- `RES 7,C` (R226). -/
def execRes_7_C (s : State) : Host.Outcome State Fault Refusal :=
  changeBit 0xCBB9 (resetBit 7) (.reg .c) s

/-- `RES 7,D` (R226). -/
def execRes_7_D (s : State) : Host.Outcome State Fault Refusal :=
  changeBit 0xCBBA (resetBit 7) (.reg .d) s

/-- `RES 7,E` (R226). -/
def execRes_7_E (s : State) : Host.Outcome State Fault Refusal :=
  changeBit 0xCBBB (resetBit 7) (.reg .e) s

/-- `RES 7,H` (R226). -/
def execRes_7_H (s : State) : Host.Outcome State Fault Refusal :=
  changeBit 0xCBBC (resetBit 7) (.reg .h) s

/-- `RES 7,L` (R226). -/
def execRes_7_L (s : State) : Host.Outcome State Fault Refusal :=
  changeBit 0xCBBD (resetBit 7) (.reg .l) s

/-- `RES 7,(HL)` (R226). -/
def execRes_7_mHL (s : State) : Host.Outcome State Fault Refusal :=
  changeBit 0xCBBE (resetBit 7) .memHL s

/-- `RES 7,A` (R226). -/
def execRes_7_A (s : State) : Host.Outcome State Fault Refusal :=
  changeBit 0xCBBF (resetBit 7) (.reg .a) s

/-- `SET 0,B` (R227). -/
def execSet_0_B (s : State) : Host.Outcome State Fault Refusal :=
  changeBit 0xCBC0 (setBit 0) (.reg .b) s

/-- `SET 0,C` (R227). -/
def execSet_0_C (s : State) : Host.Outcome State Fault Refusal :=
  changeBit 0xCBC1 (setBit 0) (.reg .c) s

/-- `SET 0,D` (R227). -/
def execSet_0_D (s : State) : Host.Outcome State Fault Refusal :=
  changeBit 0xCBC2 (setBit 0) (.reg .d) s

/-- `SET 0,E` (R227). -/
def execSet_0_E (s : State) : Host.Outcome State Fault Refusal :=
  changeBit 0xCBC3 (setBit 0) (.reg .e) s

/-- `SET 0,H` (R227). -/
def execSet_0_H (s : State) : Host.Outcome State Fault Refusal :=
  changeBit 0xCBC4 (setBit 0) (.reg .h) s

/-- `SET 0,L` (R227). -/
def execSet_0_L (s : State) : Host.Outcome State Fault Refusal :=
  changeBit 0xCBC5 (setBit 0) (.reg .l) s

/-- `SET 0,(HL)` (R227). -/
def execSet_0_mHL (s : State) : Host.Outcome State Fault Refusal :=
  changeBit 0xCBC6 (setBit 0) .memHL s

/-- `SET 0,A` (R227). -/
def execSet_0_A (s : State) : Host.Outcome State Fault Refusal :=
  changeBit 0xCBC7 (setBit 0) (.reg .a) s

/-- `SET 1,B` (R227). -/
def execSet_1_B (s : State) : Host.Outcome State Fault Refusal :=
  changeBit 0xCBC8 (setBit 1) (.reg .b) s

/-- `SET 1,C` (R227). -/
def execSet_1_C (s : State) : Host.Outcome State Fault Refusal :=
  changeBit 0xCBC9 (setBit 1) (.reg .c) s

/-- `SET 1,D` (R227). -/
def execSet_1_D (s : State) : Host.Outcome State Fault Refusal :=
  changeBit 0xCBCA (setBit 1) (.reg .d) s

/-- `SET 1,E` (R227). -/
def execSet_1_E (s : State) : Host.Outcome State Fault Refusal :=
  changeBit 0xCBCB (setBit 1) (.reg .e) s

/-- `SET 1,H` (R227). -/
def execSet_1_H (s : State) : Host.Outcome State Fault Refusal :=
  changeBit 0xCBCC (setBit 1) (.reg .h) s

/-- `SET 1,L` (R227). -/
def execSet_1_L (s : State) : Host.Outcome State Fault Refusal :=
  changeBit 0xCBCD (setBit 1) (.reg .l) s

/-- `SET 1,(HL)` (R227). -/
def execSet_1_mHL (s : State) : Host.Outcome State Fault Refusal :=
  changeBit 0xCBCE (setBit 1) .memHL s

/-- `SET 1,A` (R227). -/
def execSet_1_A (s : State) : Host.Outcome State Fault Refusal :=
  changeBit 0xCBCF (setBit 1) (.reg .a) s

/-- `SET 2,B` (R227). -/
def execSet_2_B (s : State) : Host.Outcome State Fault Refusal :=
  changeBit 0xCBD0 (setBit 2) (.reg .b) s

/-- `SET 2,C` (R227). -/
def execSet_2_C (s : State) : Host.Outcome State Fault Refusal :=
  changeBit 0xCBD1 (setBit 2) (.reg .c) s

/-- `SET 2,D` (R227). -/
def execSet_2_D (s : State) : Host.Outcome State Fault Refusal :=
  changeBit 0xCBD2 (setBit 2) (.reg .d) s

/-- `SET 2,E` (R227). -/
def execSet_2_E (s : State) : Host.Outcome State Fault Refusal :=
  changeBit 0xCBD3 (setBit 2) (.reg .e) s

/-- `SET 2,H` (R227). -/
def execSet_2_H (s : State) : Host.Outcome State Fault Refusal :=
  changeBit 0xCBD4 (setBit 2) (.reg .h) s

/-- `SET 2,L` (R227). -/
def execSet_2_L (s : State) : Host.Outcome State Fault Refusal :=
  changeBit 0xCBD5 (setBit 2) (.reg .l) s

/-- `SET 2,(HL)` (R227). -/
def execSet_2_mHL (s : State) : Host.Outcome State Fault Refusal :=
  changeBit 0xCBD6 (setBit 2) .memHL s

/-- `SET 2,A` (R227). -/
def execSet_2_A (s : State) : Host.Outcome State Fault Refusal :=
  changeBit 0xCBD7 (setBit 2) (.reg .a) s

/-- `SET 3,B` (R227). -/
def execSet_3_B (s : State) : Host.Outcome State Fault Refusal :=
  changeBit 0xCBD8 (setBit 3) (.reg .b) s

/-- `SET 3,C` (R227). -/
def execSet_3_C (s : State) : Host.Outcome State Fault Refusal :=
  changeBit 0xCBD9 (setBit 3) (.reg .c) s

/-- `SET 3,D` (R227). -/
def execSet_3_D (s : State) : Host.Outcome State Fault Refusal :=
  changeBit 0xCBDA (setBit 3) (.reg .d) s

/-- `SET 3,E` (R227). -/
def execSet_3_E (s : State) : Host.Outcome State Fault Refusal :=
  changeBit 0xCBDB (setBit 3) (.reg .e) s

/-- `SET 3,H` (R227). -/
def execSet_3_H (s : State) : Host.Outcome State Fault Refusal :=
  changeBit 0xCBDC (setBit 3) (.reg .h) s

/-- `SET 3,L` (R227). -/
def execSet_3_L (s : State) : Host.Outcome State Fault Refusal :=
  changeBit 0xCBDD (setBit 3) (.reg .l) s

/-- `SET 3,(HL)` (R227). -/
def execSet_3_mHL (s : State) : Host.Outcome State Fault Refusal :=
  changeBit 0xCBDE (setBit 3) .memHL s

/-- `SET 3,A` (R227). -/
def execSet_3_A (s : State) : Host.Outcome State Fault Refusal :=
  changeBit 0xCBDF (setBit 3) (.reg .a) s

/-- `SET 4,B` (R227). -/
def execSet_4_B (s : State) : Host.Outcome State Fault Refusal :=
  changeBit 0xCBE0 (setBit 4) (.reg .b) s

/-- `SET 4,C` (R227). -/
def execSet_4_C (s : State) : Host.Outcome State Fault Refusal :=
  changeBit 0xCBE1 (setBit 4) (.reg .c) s

/-- `SET 4,D` (R227). -/
def execSet_4_D (s : State) : Host.Outcome State Fault Refusal :=
  changeBit 0xCBE2 (setBit 4) (.reg .d) s

/-- `SET 4,E` (R227). -/
def execSet_4_E (s : State) : Host.Outcome State Fault Refusal :=
  changeBit 0xCBE3 (setBit 4) (.reg .e) s

/-- `SET 4,H` (R227). -/
def execSet_4_H (s : State) : Host.Outcome State Fault Refusal :=
  changeBit 0xCBE4 (setBit 4) (.reg .h) s

/-- `SET 4,L` (R227). -/
def execSet_4_L (s : State) : Host.Outcome State Fault Refusal :=
  changeBit 0xCBE5 (setBit 4) (.reg .l) s

/-- `SET 4,(HL)` (R227). -/
def execSet_4_mHL (s : State) : Host.Outcome State Fault Refusal :=
  changeBit 0xCBE6 (setBit 4) .memHL s

/-- `SET 4,A` (R227). -/
def execSet_4_A (s : State) : Host.Outcome State Fault Refusal :=
  changeBit 0xCBE7 (setBit 4) (.reg .a) s

/-- `SET 5,B` (R227). -/
def execSet_5_B (s : State) : Host.Outcome State Fault Refusal :=
  changeBit 0xCBE8 (setBit 5) (.reg .b) s

/-- `SET 5,C` (R227). -/
def execSet_5_C (s : State) : Host.Outcome State Fault Refusal :=
  changeBit 0xCBE9 (setBit 5) (.reg .c) s

/-- `SET 5,D` (R227). -/
def execSet_5_D (s : State) : Host.Outcome State Fault Refusal :=
  changeBit 0xCBEA (setBit 5) (.reg .d) s

/-- `SET 5,E` (R227). -/
def execSet_5_E (s : State) : Host.Outcome State Fault Refusal :=
  changeBit 0xCBEB (setBit 5) (.reg .e) s

/-- `SET 5,H` (R227). -/
def execSet_5_H (s : State) : Host.Outcome State Fault Refusal :=
  changeBit 0xCBEC (setBit 5) (.reg .h) s

/-- `SET 5,L` (R227). -/
def execSet_5_L (s : State) : Host.Outcome State Fault Refusal :=
  changeBit 0xCBED (setBit 5) (.reg .l) s

/-- `SET 5,(HL)` (R227). -/
def execSet_5_mHL (s : State) : Host.Outcome State Fault Refusal :=
  changeBit 0xCBEE (setBit 5) .memHL s

/-- `SET 5,A` (R227). -/
def execSet_5_A (s : State) : Host.Outcome State Fault Refusal :=
  changeBit 0xCBEF (setBit 5) (.reg .a) s

/-- `SET 6,B` (R227). -/
def execSet_6_B (s : State) : Host.Outcome State Fault Refusal :=
  changeBit 0xCBF0 (setBit 6) (.reg .b) s

/-- `SET 6,C` (R227). -/
def execSet_6_C (s : State) : Host.Outcome State Fault Refusal :=
  changeBit 0xCBF1 (setBit 6) (.reg .c) s

/-- `SET 6,D` (R227). -/
def execSet_6_D (s : State) : Host.Outcome State Fault Refusal :=
  changeBit 0xCBF2 (setBit 6) (.reg .d) s

/-- `SET 6,E` (R227). -/
def execSet_6_E (s : State) : Host.Outcome State Fault Refusal :=
  changeBit 0xCBF3 (setBit 6) (.reg .e) s

/-- `SET 6,H` (R227). -/
def execSet_6_H (s : State) : Host.Outcome State Fault Refusal :=
  changeBit 0xCBF4 (setBit 6) (.reg .h) s

/-- `SET 6,L` (R227). -/
def execSet_6_L (s : State) : Host.Outcome State Fault Refusal :=
  changeBit 0xCBF5 (setBit 6) (.reg .l) s

/-- `SET 6,(HL)` (R227). -/
def execSet_6_mHL (s : State) : Host.Outcome State Fault Refusal :=
  changeBit 0xCBF6 (setBit 6) .memHL s

/-- `SET 6,A` (R227). -/
def execSet_6_A (s : State) : Host.Outcome State Fault Refusal :=
  changeBit 0xCBF7 (setBit 6) (.reg .a) s

/-- `SET 7,B` (R227). -/
def execSet_7_B (s : State) : Host.Outcome State Fault Refusal :=
  changeBit 0xCBF8 (setBit 7) (.reg .b) s

/-- `SET 7,C` (R227). -/
def execSet_7_C (s : State) : Host.Outcome State Fault Refusal :=
  changeBit 0xCBF9 (setBit 7) (.reg .c) s

/-- `SET 7,D` (R227). -/
def execSet_7_D (s : State) : Host.Outcome State Fault Refusal :=
  changeBit 0xCBFA (setBit 7) (.reg .d) s

/-- `SET 7,E` (R227). -/
def execSet_7_E (s : State) : Host.Outcome State Fault Refusal :=
  changeBit 0xCBFB (setBit 7) (.reg .e) s

/-- `SET 7,H` (R227). -/
def execSet_7_H (s : State) : Host.Outcome State Fault Refusal :=
  changeBit 0xCBFC (setBit 7) (.reg .h) s

/-- `SET 7,L` (R227). -/
def execSet_7_L (s : State) : Host.Outcome State Fault Refusal :=
  changeBit 0xCBFD (setBit 7) (.reg .l) s

/-- `SET 7,(HL)` (R227). -/
def execSet_7_mHL (s : State) : Host.Outcome State Fault Refusal :=
  changeBit 0xCBFE (setBit 7) .memHL s

/-- `SET 7,A` (R227). -/
def execSet_7_A (s : State) : Host.Outcome State Fault Refusal :=
  changeBit 0xCBFF (setBit 7) (.reg .a) s

end Sys2Proof.Machine
end

