-- ==== Sys2Proof/Machine/Control.lean ====
section
/-!
DEFINITION. Control-transfer instructions (rules R240 to R252). No control transfer writes a flag, so a
condition holds before the fetch exactly when it holds after it (R240).
-/
namespace Sys2Proof.Machine

/-- The relative jump of R244: the displacement is added to PC once the instruction has been consumed. -/
def State.relative (s : State) (e : Byte) : State := { s with pc := s.pc + sext16 e }

/-- The call of R246: PC, the address after the call, is pushed, and PC goes to the target. -/
def State.callTo (s : State) (target : Word) : State := { s.push16 s.pc with pc := target }

/-- `JP cc,nn` (R242): 4 cycles taken, 3 not taken. -/
def jumpIf (op : Nat) (k : Cond) (nn : Word) (s : State) : Host.Outcome State Fault Refusal :=
  if k.holds s.flags then .next (State.spend { s.fetched 3 with pc := nn } op 4)
  else .next ((s.fetched 3).spend op 3 false)

/-- `JR cc,e` (R245): 3 cycles taken, 2 not taken. -/
def relativeIf (op : Nat) (k : Cond) (e : Byte) (s : State) : Host.Outcome State Fault Refusal :=
  if k.holds s.flags then .next (((s.fetched 2).relative e).spend op 3)
  else .next ((s.fetched 2).spend op 2 false)

/-- `CALL cc,nn` (R247): 6 cycles taken, 3 not taken. -/
def callIf (op : Nat) (k : Cond) (nn : Word) (s : State) : Host.Outcome State Fault Refusal :=
  if k.holds s.flags then .next (((s.fetched 3).callTo nn).spend op 6)
  else .next ((s.fetched 3).spend op 3 false)

/-- `RET cc` (R249): 5 cycles taken, 2 not taken. -/
def returnIf (op : Nat) (k : Cond) (s : State) : Host.Outcome State Fault Refusal :=
  if k.holds s.flags then .next ((s.fetched 1).popPc.spend op 5)
  else .next ((s.fetched 1).spend op 2 false)

/-- `RST t` with `t = 8 * y` (R113, R252). -/
def restart (op y : Nat) (s : State) : Host.Outcome State Fault Refusal :=
  .next (((s.fetched 1).callTo (BitVec.ofNat 16 (8 * y))).spend op 4)

/-- `JR e` (R244). -/
def execJr_e (e : Byte) (s : State) : Host.Outcome State Fault Refusal :=
  .next ((s.fetched 2).relative e |>.spend 0x18 3)

/-- `JR NZ,e` (R245). -/
def execJr_NZ_e (e : Byte) (s : State) : Host.Outcome State Fault Refusal :=
  relativeIf 0x20 .nz e s

/-- `JR Z,e` (R245). -/
def execJr_Z_e (e : Byte) (s : State) : Host.Outcome State Fault Refusal :=
  relativeIf 0x28 .z e s

/-- `JR NC,e` (R245). -/
def execJr_NC_e (e : Byte) (s : State) : Host.Outcome State Fault Refusal :=
  relativeIf 0x30 .nc e s

/-- `JR C,e` (R245). -/
def execJr_C_e (e : Byte) (s : State) : Host.Outcome State Fault Refusal :=
  relativeIf 0x38 .c e s

/-- `RET NZ` (R249). -/
def execRet_NZ (s : State) : Host.Outcome State Fault Refusal :=
  returnIf 0xC0 .nz s

/-- `JP NZ,nn` (R242). -/
def execJp_NZ_nn (nn : Word) (s : State) : Host.Outcome State Fault Refusal :=
  jumpIf 0xC2 .nz nn s

/-- `JP nn` (R241). -/
def execJp_nn (nn : Word) (s : State) : Host.Outcome State Fault Refusal :=
  .next (State.spend { s.fetched 3 with pc := nn } 0xC3 4)

/-- `CALL NZ,nn` (R247). -/
def execCall_NZ_nn (nn : Word) (s : State) : Host.Outcome State Fault Refusal :=
  callIf 0xC4 .nz nn s

/-- `RST 0x00` (R252). -/
def execRst_00 (s : State) : Host.Outcome State Fault Refusal :=
  restart 0xC7 0 s

/-- `RET Z` (R249). -/
def execRet_Z (s : State) : Host.Outcome State Fault Refusal :=
  returnIf 0xC8 .z s

/-- `RET` (R248). -/
def execRet (s : State) : Host.Outcome State Fault Refusal :=
  .next ((s.fetched 1).popPc.spend 0xC9 4)

/-- `JP Z,nn` (R242). -/
def execJp_Z_nn (nn : Word) (s : State) : Host.Outcome State Fault Refusal :=
  jumpIf 0xCA .z nn s

/-- `CALL Z,nn` (R247). -/
def execCall_Z_nn (nn : Word) (s : State) : Host.Outcome State Fault Refusal :=
  callIf 0xCC .z nn s

/-- `CALL nn` (R246). -/
def execCall_nn (nn : Word) (s : State) : Host.Outcome State Fault Refusal :=
  .next (((s.fetched 3).callTo nn).spend 0xCD 6)

/-- `RST 0x08` (R252). -/
def execRst_08 (s : State) : Host.Outcome State Fault Refusal :=
  restart 0xCF 1 s

/-- `RET NC` (R249). -/
def execRet_NC (s : State) : Host.Outcome State Fault Refusal :=
  returnIf 0xD0 .nc s

/-- `JP NC,nn` (R242). -/
def execJp_NC_nn (nn : Word) (s : State) : Host.Outcome State Fault Refusal :=
  jumpIf 0xD2 .nc nn s

/-- `CALL NC,nn` (R247). -/
def execCall_NC_nn (nn : Word) (s : State) : Host.Outcome State Fault Refusal :=
  callIf 0xD4 .nc nn s

/-- `RST 0x10` (R252). -/
def execRst_10 (s : State) : Host.Outcome State Fault Refusal :=
  restart 0xD7 2 s

/-- `RET C` (R249). -/
def execRet_C (s : State) : Host.Outcome State Fault Refusal :=
  returnIf 0xD8 .c s

/-- `RETI` (R251). -/
def execReti (s : State) : Host.Outcome State Fault Refusal :=
  .next ((s.fetched 1).returnFromInterrupt.spend 0xD9 4)

/-- `JP C,nn` (R242). -/
def execJp_C_nn (nn : Word) (s : State) : Host.Outcome State Fault Refusal :=
  jumpIf 0xDA .c nn s

/-- `CALL C,nn` (R247). -/
def execCall_C_nn (nn : Word) (s : State) : Host.Outcome State Fault Refusal :=
  callIf 0xDC .c nn s

/-- `RST 0x18` (R252). -/
def execRst_18 (s : State) : Host.Outcome State Fault Refusal :=
  restart 0xDF 3 s

/-- `RST 0x20` (R252). -/
def execRst_20 (s : State) : Host.Outcome State Fault Refusal :=
  restart 0xE7 4 s

/-- `JP HL` (R243). -/
def execJp_HL (s : State) : Host.Outcome State Fault Refusal :=
  .next (State.spend { s.fetched 1 with pc := s.hl } 0xE9 1)

/-- `RST 0x28` (R252). -/
def execRst_28 (s : State) : Host.Outcome State Fault Refusal :=
  restart 0xEF 5 s

/-- `RST 0x30` (R252). -/
def execRst_30 (s : State) : Host.Outcome State Fault Refusal :=
  restart 0xF7 6 s

/-- `RST 0x38` (R252). -/
def execRst_38 (s : State) : Host.Outcome State Fault Refusal :=
  restart 0xFF 7 s

end Sys2Proof.Machine
end

