-- ==== Sys2Proof/Machine/Cpu.lean ====
section
/-!
DEFINITION. CPU control instructions (rules R260 to R264).
-/
namespace Sys2Proof.Machine

/-- The effect of HALT (R261): with IME 0 and a request pending and enabled the CPU does not halt and the next
opcode fetch does not advance PC; otherwise it halts. -/
def State.haltNow (s : State) : State :=
  if s.ime = false ∧ s.pending ≠ 0 then { s with haltBug := true } else { s with halted := true }

/-- `NOP` (R260). -/
def execNop (s : State) : Host.Outcome State Fault Refusal :=
  .next ((s.fetched 1).spend 0x00 1)

/-- `STOP` (R262). -/
def execStop (s : State) : Host.Outcome State Fault Refusal :=
  .next (State.spend { s.fetched 1 with runState := .stopped } 0x10 1)

/-- `HALT` (R261). -/
def execHalt (s : State) : Host.Outcome State Fault Refusal :=
  .next ((s.fetched 1).haltNow.spend 0x76 1)

/-- `DI` (R263). -/
def execDi (s : State) : Host.Outcome State Fault Refusal :=
  .next (State.spend { s.fetched 1 with ime := false, eiPending := false } 0xF3 1)

/-- `EI` (R264). -/
def execEi (s : State) : Host.Outcome State Fault Refusal :=
  .next (State.spend { s.fetched 1 with eiPending := true } 0xFB 1)

end Sys2Proof.Machine
end

