-- ==== Sys2Proof/Machine/Undefined.lean ====
section
/-!
DEFINITION. The 11 undefined bytes of the base table (rules R117, R280): each raises `UndefinedOpcode`, the
machine stop of the spec, as a next state whose `run_state` is FAULTED.
-/
namespace Sys2Proof.Machine

/-- Executing an undefined byte: the exception is taken on the opcode byte alone, before anything of the
instruction has happened (R277, R280, R283). -/
def undefinedOpcode (op : Byte) (s : State) : Host.Outcome State Fault Refusal :=
  .next (s.raiseUndefinedOpcode op)

/-- `ILLEGAL_D3` (R280). -/
def execIllegal_D3 (s : State) : Host.Outcome State Fault Refusal :=
  undefinedOpcode 0xD3 s

/-- `ILLEGAL_DB` (R280). -/
def execIllegal_DB (s : State) : Host.Outcome State Fault Refusal :=
  undefinedOpcode 0xDB s

/-- `ILLEGAL_DD` (R280). -/
def execIllegal_DD (s : State) : Host.Outcome State Fault Refusal :=
  undefinedOpcode 0xDD s

/-- `ILLEGAL_E3` (R280). -/
def execIllegal_E3 (s : State) : Host.Outcome State Fault Refusal :=
  undefinedOpcode 0xE3 s

/-- `ILLEGAL_E4` (R280). -/
def execIllegal_E4 (s : State) : Host.Outcome State Fault Refusal :=
  undefinedOpcode 0xE4 s

/-- `ILLEGAL_EB` (R280). -/
def execIllegal_EB (s : State) : Host.Outcome State Fault Refusal :=
  undefinedOpcode 0xEB s

/-- `ILLEGAL_EC` (R280). -/
def execIllegal_EC (s : State) : Host.Outcome State Fault Refusal :=
  undefinedOpcode 0xEC s

/-- `ILLEGAL_ED` (R280). -/
def execIllegal_ED (s : State) : Host.Outcome State Fault Refusal :=
  undefinedOpcode 0xED s

/-- `ILLEGAL_F4` (R280). -/
def execIllegal_F4 (s : State) : Host.Outcome State Fault Refusal :=
  undefinedOpcode 0xF4 s

/-- `ILLEGAL_FC` (R280). -/
def execIllegal_FC (s : State) : Host.Outcome State Fault Refusal :=
  undefinedOpcode 0xFC s

/-- `ILLEGAL_FD` (R280). -/
def execIllegal_FD (s : State) : Host.Outcome State Fault Refusal :=
  undefinedOpcode 0xFD s

end Sys2Proof.Machine
end

