-- ==== Sys2Proof/Machine/Prefix.lean ====
section
/-!
DEFINITION. The prefix row (rules R119, R276): the byte 0xCB consumes a second byte and performs the entry of
the extended table that the byte names. The 256 CB rows have meanings of their own; this one is the table read
by its fields (R112), used when the prefix is taken as a row by itself (log entry 7).
-/
namespace Sys2Proof.Machine

/-- Performing the CB-table entry `op2` by its fields (R112): group `x`, operation or bit number `y`, operand
`z`. Both bytes are consumed by the entry. -/
def cbPerform (op2 : Byte) (s : State) : Host.Outcome State Fault Refusal :=
  let op := 0xCB00 + op2.toNat
  let y := op2.toNat / 8 % 8
  let z := Place.ofCode (op2.toNat % 8)
  match op2.toNat / 64 with
  | 0 => rotatePlace op (RotOp.ofCode y) z s
  | 1 => testBit op y z s
  | 2 => changeBit op (resetBit y) z s
  | _ => changeBit op (setBit y) z s

/-- `PREFIX CB` (R119). -/
def execCbPrefix (s : State) : Host.Outcome State Fault Refusal :=
  cbPerform (s.memRead (s.pcAfter 1)) s

end Sys2Proof.Machine
end

