-- ==== Sys2Proof/Machine/Timer.lean ====
section
/-!
DEFINITION. The timer unit (rules R300 to R306): `TimerAdvance(n)` at the end of every completed step.
-/
namespace Sys2Proof.Machine

/-- The DIV part of an advance (R301): DIV rises by the full periods of 64 M-cycles that have elapsed, the
remainder is carried forward. The loop of R301 runs `(div_counter + n) / 64` times. -/
def State.advanceDiv (s : State) (n : Nat) : State :=
  { s with
    div := s.div + BitVec.ofNat 8 ((s.divCounter + n) / 64)
    divCounter := (s.divCounter + n) % 64 }

/-- `TAC.enable`, bit 2 (R34). -/
def State.timerEnabled (s : State) : Bool := s.tac.getLsbD 2

/-- The TIMA period that `TAC.select`, bits 1 and 0, chooses (R34, R302). -/
def timaPeriod (tac : Byte) : Nat :=
  match (tac &&& 3).toNat with
  | 0 => 256
  | 1 => 4
  | 2 => 16
  | _ => 64

/-- One increment of TIMA (R302): past 0xFF it is reloaded from TMA and the timer interrupt is requested. -/
def State.timaTick (s : State) : State :=
  if s.tima = 0xFF then { s with tima := s.tma, iflag := s.iflag ||| 0x04 }
  else { s with tima := s.tima + 1 }

/-- `k` increments of TIMA. -/
def State.timaTicks (s : State) : Nat → State
  | 0 => s
  | k + 1 => State.timaTicks s.timaTick k

/-- The TIMA part of an advance (R302): while enabled, one increment for each full period elapsed, the
remainder carried forward. The loop of R302 runs `(tima_counter + n) / period` times. -/
def State.advanceTima (s : State) (n : Nat) : State :=
  if s.timerEnabled then
    let period := timaPeriod s.tac
    let total := s.timaCounter + n
    State.timaTicks { s with timaCounter := total % period } (total / period)
  else s

/-- `TimerAdvance(n)` (R300): rule R301, then rule R302. -/
def State.timerAdvance (s : State) (n : Nat) : State := (s.advanceDiv n).advanceTima n

/-- The end of a step that executed an instruction (R270): `start` is the state when the step began, `done`
what the instruction left. After a decode error every piece of state is as it was at `start`, but for
`run_state` with its record and the 0 cycles reported; otherwise the enable latch completes and the timer
advances by the cycles reported. -/
def State.finishInstr (start done : State) : State :=
  match done.runState with
  | .faulted r => { start with runState := .faulted r, cycles := 0 }
  | _ => (done.completeLatch start.eiPending).timerAdvance done.cycles

end Sys2Proof.Machine
end

