-- ==== Sys2Proof/Machine/Step.lean ====
section
/-!
DEFINITION. One step of the machine (rule R270): the environment's moves that come before it (R92), then
"check interrupts → (vectored dispatch) or (fetch-decode-execute one instruction) → advance timer by the cycles
consumed". Everything it calls is in files that a later repair can mend.
-/
namespace Sys2Proof.Machine

/-- The step of R270 at a state in which `run_state` is RUNNING: interrupt check and wake, then dispatch, idle
or one instruction, then the timer. -/
def runningStep (s : State) : Host.Outcome State Fault Refusal :=
  if s.mustDispatch then .next (s.wake.dispatchInterrupt.timerAdvance s.wake.dispatchInterrupt.cycles)
  else if s.wake.halted then .next (s.wake.idle.timerAdvance s.wake.idle.cycles)
  else
    match exec s.wake.instrAtPc s.wake with
    | .next done => .next (s.finishInstr done)
    | .fault r => .fault r
    | .refused r => .refused r

/-- One step. FAULTED and STOPPED have none (R272): the outcome is a fault that names the state. -/
def step (s : State) : Host.Outcome State Fault Refusal :=
  match s.runState with
  | .running => runningStep s.environment
  | .faulted _ => .fault .steppedWhileFaulted
  | .stopped => .fault .steppedWhileStopped

/-- The state with the bytes of an instruction stored, as a loader would by the back door (R91), where `step`
fetches its next instruction, and with the conditions under which the very next step fetches and runs it: the
core running, not halted, no halt bug in force, no move of the environment before that step, and no interrupt
to dispatch. A PC whose bytes are IF or IE may make a request pending; IME is cleared only where one is. -/
def State.withFetchWord (s : State) (nbits w : Nat) : State :=
  let bytes := tableBytes nbits w
  let s := s.rawWrite s.pc (bytes.getD 0 0)
  let s := s.rawWrite (s.pc + 1) (bytes.getD 1 0)
  let s := s.rawWrite (s.pc + 2) (bytes.getD 2 0)
  { s with
    runState := .running
    halted := false
    haltBug := false
    ime := s.ime && decide (s.pending = 0)
    env := if s.env.isEmpty then [] else [] :: s.env }

end Sys2Proof.Machine
end

