-- ==== Sys2Proof/Machine/HostPort.lean ====
section
/-!
DEFINITION. What the host may do to the core between steps (rules R90 to R92, R330, R340): apply reset with the
launch parameters, load a program by the back door, patch the state as a debugger does. The back door itself is
`State.rawWrite` (R91), the reset values of registers and hidden state are those of `State.reset` (R50). "The step is
the only transition of the core besides reset and the host moves of rule R92" (R270): the moves of the out-of-scope
peripherals are the schedule `State.env`, and every other row of R92 that changes the core is a `HostMove`.
-/
namespace Sys2Proof.Machine

/-- The launch parameters of rule R6 that reset reads. -/
structure Launch where
  /-- `IO_RESET_IMAGE` (R334): the bytes from 0xFF00 on. Where it is shorter than 128 bytes, the rest is as in
  `State.reset` (log entry 2). -/
  ioImage : List Byte
  /-- `MEM_INIT` (R335), and the ROM bytes before loading: the bytes that differ from what an unlisted address
  reads as (log entry 1). -/
  memInit : List (Word × Byte)
  /-- `IE_RESET` (R50). -/
  ieReset : Byte
  deriving DecidableEq, Repr

/-- The launch that `State.reset` stands for. -/
def Launch.default : Launch := { ioImage := [], memInit := [], ieReset := 0x00 }

/-- Bytes written through the back door (R91) at `addr` and the addresses after it. -/
def State.loadBytes (s : State) : Word → List Byte → State
  | _, [] => s
  | addr, v :: vs => State.loadBytes (s.rawWrite addr v) (addr + 1) vs

/-- Single bytes written through the back door (R91), in order. -/
def State.loadCells (s : State) : List (Word × Byte) → State
  | [] => s
  | (addr, v) :: cells => State.loadCells (s.rawWrite addr v) cells

/-- `Reset()` (R330), in any `run_state`: registers, hidden state and bus contents as reset leaves them, the I/O image
and IE after everything else. The parameters of the machine, `cfg` and `env`, are not state (R20) and stay. -/
def State.hostReset (s : State) (l : Launch) : State :=
  let s := { State.reset with cfg := s.cfg, env := s.env }
  { (s.loadCells l.memInit).loadBytes 0xFF00 (l.ioImage.take 128) with ie := l.ieReset }

/-- Loading `ROM_IMAGE` (R65, R340): byte `i` of the image goes to address `i` by the back door, for the window
0x0000 to 0x7FFF. -/
def State.loadRom (s : State) (image : List Byte) : State := s.loadBytes 0x0000 (image.take 0x8000)

/-- One item a debugger writes "via defined accessors" (R92; log entry 19): a register, a flag byte, SP, PC, a latch or
a counter, or a byte of the bus. `run_state` is left by reset only (R272). -/
inductive Patch where
  | reg (r : Reg8) (v : Byte)
  /-- F, whose bits 3 to 0 the accessor keeps 0 (R23, decision D39). -/
  | flagByte (v : Byte)
  | sp (v : Word)
  | pc (v : Word)
  | ime (b : Bool)
  | eiPending (b : Bool)
  | halted (b : Bool)
  | haltBug (b : Bool)
  | divCounter (n : Nat)
  | timaCounter (n : Nat)
  | bus (addr : Word) (v : Byte)
  deriving DecidableEq, Repr

/-- The debugger's accessor of one item (R92). -/
def State.patch (s : State) : Patch → State
  | .reg r v => s.setReg8 r v
  | .flagByte v => { s with f := v &&& 0xF0 }
  | .sp v => { s with sp := v }
  | .pc v => { s with pc := v }
  | .ime b => { s with ime := b }
  | .eiPending b => { s with eiPending := b }
  | .halted b => { s with halted := b }
  | .haltBug b => { s with haltBug := b }
  | .divCounter n => { s with divCounter := n }
  | .timaCounter n => { s with timaCounter := n }
  | .bus addr v => s.rawWrite addr v

/-- The rows of R92 that are the host's own moves between steps: reset, loading, and the debugger's changes, as many
as it likes. A claim about runs in which a debugger acts says so by applying `State.hostMove` between steps. -/
inductive HostMove where
  | reset (l : Launch)
  | load (image : List Byte)
  | inspectAndPatch (ps : List Patch)
  deriving DecidableEq, Repr

/-- What a move of the host does (R92). -/
def State.hostMove (s : State) : HostMove → State
  | .reset l => s.hostReset l
  | .load image => s.loadRom image
  | .inspectAndPatch ps => ps.foldl State.patch s

end Sys2Proof.Machine
end

