-- ==== Sys2Proof/Safety.lean ====
section
/-!
DEFINITION. The terms claims are stated in: the invariant of the reachable states, and the four situations in
which a run can be said to end (rule R345, parameter `END_OF_RUN`).
-/
namespace Sys2Proof.Machine

/-- What every state that a run can reach has between steps: memory in canonical form, no bits 3 to 0 in F
(R23), both timer accumulators below their periods (R42, R43, R303), the CPU never halted with the enable latch
set (R293), and a fault record that names an undefined byte at PC (R277, R281). The second accumulator is held
while the timer is disabled (R304), so then only the longest period bounds it. -/
structure State.Inv (s : State) : Prop where
  memory : Memory.wf s.mem
  flagByte : s.f &&& 0x0F = 0
  divBound : s.divCounter < 64
  timaBound : s.timaCounter < 256
  timaPeriodBound : s.timerEnabled = true → s.timaCounter < timaPeriod s.tac
  latch : ¬(s.halted = true ∧ s.eiPending = true)
  record : ∀ r, s.fault = some r → r.kind = .undefinedOpcode ∧ r.pc = s.pc

/-- The four situations of rule R345. -/
inductive EndOfRun where
  | fault | stopped | haltedForGood | spin
  deriving DecidableEq, Repr

/-- The timer cannot request its interrupt: it is disabled (R302). -/
def State.timerIdle (s : State) : Prop := s.timerEnabled = false

/-- "halted == 1, and no enabled source can ever be raised" (R345): no source is enabled, whatever the environment
does; or the timer's alone is, with no request of it pending, the timer disabled and no environment. -/
def State.haltedForGood (s : State) : Prop :=
  s.runState = .running ∧ s.halted = true ∧
    (s.ie &&& 0x1F = 0 ∨ (s.ie &&& 0x1F = 0x04 ∧ s.pending = 0 ∧ s.timerIdle ∧ s.env = []))

/-- The instruction at PC is "an instruction that jumps to itself" (R345): a JP or JR that goes, as the state stands,
to its own address. A conditional one is taken there, since its fall-through is not its own address. -/
def State.spinning (s : State) : Prop :=
  s.runState = .running ∧ s.halted = false ∧ s.haltBug = false ∧ s.instrAtPc.isJump = true ∧
    ∃ t, exec s.instrAtPc s = .next t ∧ t.pc = s.pc

/-- Whether a run has ended, for the situation the claim chooses (R345, decision D30). -/
def State.ended (s : State) : EndOfRun → Prop
  | .fault => ∃ r, s.runState = .faulted r
  | .stopped => s.runState = .stopped
  | .haltedForGood => s.haltedForGood
  | .spin => s.spinning

end Sys2Proof.Machine
end

