-- ==== Sys2Proof/Certificates/Slice0/Obligations.lean ====
section
/-!
DEFINITION. The statements for the provers, from the numbered rules of spec/. The first part holds the vocabulary:
the operand codes and the instruction forms as the rules write them, every constructor by its name, and what it
means that an instruction changes nothing else. No definition of a result or of a flag is taken from the model:
each statement writes it out as its rule does.
-/
open Sys2Proof Sys2Proof.Machine

namespace Sys2Proof.Stated

/-! ### Operand codes (rules R106 to R111) -/

/-- The 3-bit code of a register (R106). -/
def regCode : Reg8 → BitVec 3
  | .b => 0 | .c => 1 | .d => 2 | .e => 3 | .h => 4 | .l => 5 | .a => 7

/-- The 3-bit code of an operand (R106): 6 is the byte at the address in HL. -/
def placeCode : Place → BitVec 3
  | .reg r => regCode r
  | .memHL => 6

/-- The 2-bit code of a pair of `LD rr,nn`, `INC rr`, `DEC rr`, `ADD HL,rr` (R107). -/
def pairCode : Reg16 → BitVec 2
  | .bc => 0 | .de => 1 | .hl => 2 | .sp => 3

/-- The 2-bit code of a pair of PUSH and POP (R108). -/
def stackCode : StackReg → BitVec 2
  | .bc => 0 | .de => 1 | .hl => 2 | .af => 3

/-- The 2-bit code of a condition (R109). -/
def condCode : Cond → BitVec 2
  | .nz => 0 | .z => 1 | .nc => 2 | .c => 3

/-- The 3-bit code of an accumulator operation (R110). -/
def aluCode : AluOp → BitVec 3
  | .add => 0 | .adc => 1 | .sub => 2 | .sbc => 3 | .and => 4 | .xor => 5 | .or => 6 | .cp => 7

/-- The 3-bit code of a rotate or shift (R111). -/
def rotCode : RotOp → BitVec 3
  | .rlc => 0 | .rrc => 1 | .rl => 2 | .rr => 3 | .sla => 4 | .sra => 5 | .swap => 6 | .srl => 7

/-- The byte with the fields `x`, `y`, `z` (R101, R112). -/
def xyz (x : BitVec 2) (y z : BitVec 3) : Byte := x ++ y ++ z

/-- The byte with the fields `x`, `p`, `q`, `z` (R101). -/
def xpqz (x p : BitVec 2) (q : BitVec 1) (z : BitVec 3) : Byte := x ++ p ++ q ++ z

/-- The low byte of a word in an instruction comes first (R105). -/
def low (w : Word) : Byte := w.setWidth 8

/-- The high byte of a word. -/
def high (w : Word) : Byte := (w >>> 8).setWidth 8

/-! ### The instruction forms (rules R130 to R252) -/

/-- `LD r,r'` (R130). -/
def ldRR : Reg8 → Reg8 → Instr
  | .b, .b => .ld_B_B | .b, .c => .ld_B_C | .b, .d => .ld_B_D | .b, .e => .ld_B_E
  | .b, .h => .ld_B_H | .b, .l => .ld_B_L | .b, .a => .ld_B_A | .c, .b => .ld_C_B
  | .c, .c => .ld_C_C | .c, .d => .ld_C_D | .c, .e => .ld_C_E | .c, .h => .ld_C_H
  | .c, .l => .ld_C_L | .c, .a => .ld_C_A | .d, .b => .ld_D_B | .d, .c => .ld_D_C
  | .d, .d => .ld_D_D | .d, .e => .ld_D_E | .d, .h => .ld_D_H | .d, .l => .ld_D_L
  | .d, .a => .ld_D_A | .e, .b => .ld_E_B | .e, .c => .ld_E_C | .e, .d => .ld_E_D
  | .e, .e => .ld_E_E | .e, .h => .ld_E_H | .e, .l => .ld_E_L | .e, .a => .ld_E_A
  | .h, .b => .ld_H_B | .h, .c => .ld_H_C | .h, .d => .ld_H_D | .h, .e => .ld_H_E
  | .h, .h => .ld_H_H | .h, .l => .ld_H_L | .h, .a => .ld_H_A | .l, .b => .ld_L_B
  | .l, .c => .ld_L_C | .l, .d => .ld_L_D | .l, .e => .ld_L_E | .l, .h => .ld_L_H
  | .l, .l => .ld_L_L | .l, .a => .ld_L_A | .a, .b => .ld_A_B | .a, .c => .ld_A_C
  | .a, .d => .ld_A_D | .a, .e => .ld_A_E | .a, .h => .ld_A_H | .a, .l => .ld_A_L
  | .a, .a => .ld_A_A

/-- `LD r,n` (R131). -/
def ldRN : Reg8 → Byte → Instr
  | .b, n => .ld_B_n n | .c, n => .ld_C_n n | .d, n => .ld_D_n n | .e, n => .ld_E_n n
  | .h, n => .ld_H_n n | .l, n => .ld_L_n n | .a, n => .ld_A_n n

/-- `LD r,(HL)` (R132). -/
def ldRM : Reg8 → Instr
  | .b => .ld_B_mHL | .c => .ld_C_mHL | .d => .ld_D_mHL | .e => .ld_E_mHL
  | .h => .ld_H_mHL | .l => .ld_L_mHL | .a => .ld_A_mHL

/-- `LD (HL),r` (R133). -/
def ldMR : Reg8 → Instr
  | .b => .ld_mHL_B | .c => .ld_mHL_C | .d => .ld_mHL_D | .e => .ld_mHL_E
  | .h => .ld_mHL_H | .l => .ld_mHL_L | .a => .ld_mHL_A

/-- An accumulator operation with its operand form (R178). -/
def aluI : AluOp → Source → Instr
  | .add, .reg .b => .add_A_B | .add, .reg .c => .add_A_C | .add, .reg .d => .add_A_D
  | .add, .reg .e => .add_A_E | .add, .reg .h => .add_A_H | .add, .reg .l => .add_A_L
  | .add, .reg .a => .add_A_A | .add, .memHL => .add_A_mHL | .add, .imm n => .add_A_n n
  | .adc, .reg .b => .adc_A_B | .adc, .reg .c => .adc_A_C | .adc, .reg .d => .adc_A_D
  | .adc, .reg .e => .adc_A_E | .adc, .reg .h => .adc_A_H | .adc, .reg .l => .adc_A_L
  | .adc, .reg .a => .adc_A_A | .adc, .memHL => .adc_A_mHL | .adc, .imm n => .adc_A_n n
  | .sub, .reg .b => .sub_B | .sub, .reg .c => .sub_C | .sub, .reg .d => .sub_D
  | .sub, .reg .e => .sub_E | .sub, .reg .h => .sub_H | .sub, .reg .l => .sub_L
  | .sub, .reg .a => .sub_A | .sub, .memHL => .sub_mHL | .sub, .imm n => .sub_n n
  | .sbc, .reg .b => .sbc_A_B | .sbc, .reg .c => .sbc_A_C | .sbc, .reg .d => .sbc_A_D
  | .sbc, .reg .e => .sbc_A_E | .sbc, .reg .h => .sbc_A_H | .sbc, .reg .l => .sbc_A_L
  | .sbc, .reg .a => .sbc_A_A | .sbc, .memHL => .sbc_A_mHL | .sbc, .imm n => .sbc_A_n n
  | .and, .reg .b => .and_B | .and, .reg .c => .and_C | .and, .reg .d => .and_D
  | .and, .reg .e => .and_E | .and, .reg .h => .and_H | .and, .reg .l => .and_L
  | .and, .reg .a => .and_A | .and, .memHL => .and_mHL | .and, .imm n => .and_n n
  | .xor, .reg .b => .xor_B | .xor, .reg .c => .xor_C | .xor, .reg .d => .xor_D
  | .xor, .reg .e => .xor_E | .xor, .reg .h => .xor_H | .xor, .reg .l => .xor_L
  | .xor, .reg .a => .xor_A | .xor, .memHL => .xor_mHL | .xor, .imm n => .xor_n n
  | .or, .reg .b => .or_B | .or, .reg .c => .or_C | .or, .reg .d => .or_D
  | .or, .reg .e => .or_E | .or, .reg .h => .or_H | .or, .reg .l => .or_L
  | .or, .reg .a => .or_A | .or, .memHL => .or_mHL | .or, .imm n => .or_n n
  | .cp, .reg .b => .cp_B | .cp, .reg .c => .cp_C | .cp, .reg .d => .cp_D
  | .cp, .reg .e => .cp_E | .cp, .reg .h => .cp_H | .cp, .reg .l => .cp_L
  | .cp, .reg .a => .cp_A | .cp, .memHL => .cp_mHL | .cp, .imm n => .cp_n n

/-- `INC r` and `INC (HL)` (R180, R181). -/
def incI : Place → Instr
  | .reg .b => .inc_B | .reg .c => .inc_C | .reg .d => .inc_D | .reg .e => .inc_E
  | .reg .h => .inc_H | .reg .l => .inc_L | .memHL => .inc_mHL | .reg .a => .inc_A

/-- `DEC r` and `DEC (HL)` (R182, R183). -/
def decI : Place → Instr
  | .reg .b => .dec_B | .reg .c => .dec_C | .reg .d => .dec_D | .reg .e => .dec_E
  | .reg .h => .dec_H | .reg .l => .dec_L | .memHL => .dec_mHL | .reg .a => .dec_A

/-- A CB-table rotate, shift or SWAP with its operand (R215 to R222). -/
def rotI : RotOp → Place → Instr
  | .rlc, .reg .b => .rlc_B | .rlc, .reg .c => .rlc_C | .rlc, .reg .d => .rlc_D | .rlc, .reg .e => .rlc_E
  | .rlc, .reg .h => .rlc_H | .rlc, .reg .l => .rlc_L | .rlc, .memHL => .rlc_mHL | .rlc, .reg .a => .rlc_A
  | .rrc, .reg .b => .rrc_B | .rrc, .reg .c => .rrc_C | .rrc, .reg .d => .rrc_D | .rrc, .reg .e => .rrc_E
  | .rrc, .reg .h => .rrc_H | .rrc, .reg .l => .rrc_L | .rrc, .memHL => .rrc_mHL | .rrc, .reg .a => .rrc_A
  | .rl, .reg .b => .rl_B | .rl, .reg .c => .rl_C | .rl, .reg .d => .rl_D | .rl, .reg .e => .rl_E
  | .rl, .reg .h => .rl_H | .rl, .reg .l => .rl_L | .rl, .memHL => .rl_mHL | .rl, .reg .a => .rl_A
  | .rr, .reg .b => .rr_B | .rr, .reg .c => .rr_C | .rr, .reg .d => .rr_D | .rr, .reg .e => .rr_E
  | .rr, .reg .h => .rr_H | .rr, .reg .l => .rr_L | .rr, .memHL => .rr_mHL | .rr, .reg .a => .rr_A
  | .sla, .reg .b => .sla_B | .sla, .reg .c => .sla_C | .sla, .reg .d => .sla_D | .sla, .reg .e => .sla_E
  | .sla, .reg .h => .sla_H | .sla, .reg .l => .sla_L | .sla, .memHL => .sla_mHL | .sla, .reg .a => .sla_A
  | .sra, .reg .b => .sra_B | .sra, .reg .c => .sra_C | .sra, .reg .d => .sra_D | .sra, .reg .e => .sra_E
  | .sra, .reg .h => .sra_H | .sra, .reg .l => .sra_L | .sra, .memHL => .sra_mHL | .sra, .reg .a => .sra_A
  | .swap, .reg .b => .swap_B | .swap, .reg .c => .swap_C | .swap, .reg .d => .swap_D | .swap, .reg .e => .swap_E
  | .swap, .reg .h => .swap_H | .swap, .reg .l => .swap_L | .swap, .memHL => .swap_mHL | .swap, .reg .a => .swap_A
  | .srl, .reg .b => .srl_B | .srl, .reg .c => .srl_C | .srl, .reg .d => .srl_D | .srl, .reg .e => .srl_E
  | .srl, .reg .h => .srl_H | .srl, .reg .l => .srl_L | .srl, .memHL => .srl_mHL | .srl, .reg .a => .srl_A

/-- `BIT b,x` (R225), by the bit's number; a number above 7, which no bit has, stands for 7. -/
def bitI : Nat → Place → Instr
  | 0, .reg .b => .bit_0_B | 0, .reg .c => .bit_0_C | 0, .reg .d => .bit_0_D | 0, .reg .e => .bit_0_E
  | 0, .reg .h => .bit_0_H | 0, .reg .l => .bit_0_L | 0, .memHL => .bit_0_mHL | 0, .reg .a => .bit_0_A
  | 1, .reg .b => .bit_1_B | 1, .reg .c => .bit_1_C | 1, .reg .d => .bit_1_D | 1, .reg .e => .bit_1_E
  | 1, .reg .h => .bit_1_H | 1, .reg .l => .bit_1_L | 1, .memHL => .bit_1_mHL | 1, .reg .a => .bit_1_A
  | 2, .reg .b => .bit_2_B | 2, .reg .c => .bit_2_C | 2, .reg .d => .bit_2_D | 2, .reg .e => .bit_2_E
  | 2, .reg .h => .bit_2_H | 2, .reg .l => .bit_2_L | 2, .memHL => .bit_2_mHL | 2, .reg .a => .bit_2_A
  | 3, .reg .b => .bit_3_B | 3, .reg .c => .bit_3_C | 3, .reg .d => .bit_3_D | 3, .reg .e => .bit_3_E
  | 3, .reg .h => .bit_3_H | 3, .reg .l => .bit_3_L | 3, .memHL => .bit_3_mHL | 3, .reg .a => .bit_3_A
  | 4, .reg .b => .bit_4_B | 4, .reg .c => .bit_4_C | 4, .reg .d => .bit_4_D | 4, .reg .e => .bit_4_E
  | 4, .reg .h => .bit_4_H | 4, .reg .l => .bit_4_L | 4, .memHL => .bit_4_mHL | 4, .reg .a => .bit_4_A
  | 5, .reg .b => .bit_5_B | 5, .reg .c => .bit_5_C | 5, .reg .d => .bit_5_D | 5, .reg .e => .bit_5_E
  | 5, .reg .h => .bit_5_H | 5, .reg .l => .bit_5_L | 5, .memHL => .bit_5_mHL | 5, .reg .a => .bit_5_A
  | 6, .reg .b => .bit_6_B | 6, .reg .c => .bit_6_C | 6, .reg .d => .bit_6_D | 6, .reg .e => .bit_6_E
  | 6, .reg .h => .bit_6_H | 6, .reg .l => .bit_6_L | 6, .memHL => .bit_6_mHL | 6, .reg .a => .bit_6_A
  | _, .reg .b => .bit_7_B | _, .reg .c => .bit_7_C | _, .reg .d => .bit_7_D | _, .reg .e => .bit_7_E
  | _, .reg .h => .bit_7_H | _, .reg .l => .bit_7_L | _, .memHL => .bit_7_mHL | _, .reg .a => .bit_7_A

/-- `RES b,x` (R226), by the bit's number; a number above 7, which no bit has, stands for 7. -/
def resI : Nat → Place → Instr
  | 0, .reg .b => .res_0_B | 0, .reg .c => .res_0_C | 0, .reg .d => .res_0_D | 0, .reg .e => .res_0_E
  | 0, .reg .h => .res_0_H | 0, .reg .l => .res_0_L | 0, .memHL => .res_0_mHL | 0, .reg .a => .res_0_A
  | 1, .reg .b => .res_1_B | 1, .reg .c => .res_1_C | 1, .reg .d => .res_1_D | 1, .reg .e => .res_1_E
  | 1, .reg .h => .res_1_H | 1, .reg .l => .res_1_L | 1, .memHL => .res_1_mHL | 1, .reg .a => .res_1_A
  | 2, .reg .b => .res_2_B | 2, .reg .c => .res_2_C | 2, .reg .d => .res_2_D | 2, .reg .e => .res_2_E
  | 2, .reg .h => .res_2_H | 2, .reg .l => .res_2_L | 2, .memHL => .res_2_mHL | 2, .reg .a => .res_2_A
  | 3, .reg .b => .res_3_B | 3, .reg .c => .res_3_C | 3, .reg .d => .res_3_D | 3, .reg .e => .res_3_E
  | 3, .reg .h => .res_3_H | 3, .reg .l => .res_3_L | 3, .memHL => .res_3_mHL | 3, .reg .a => .res_3_A
  | 4, .reg .b => .res_4_B | 4, .reg .c => .res_4_C | 4, .reg .d => .res_4_D | 4, .reg .e => .res_4_E
  | 4, .reg .h => .res_4_H | 4, .reg .l => .res_4_L | 4, .memHL => .res_4_mHL | 4, .reg .a => .res_4_A
  | 5, .reg .b => .res_5_B | 5, .reg .c => .res_5_C | 5, .reg .d => .res_5_D | 5, .reg .e => .res_5_E
  | 5, .reg .h => .res_5_H | 5, .reg .l => .res_5_L | 5, .memHL => .res_5_mHL | 5, .reg .a => .res_5_A
  | 6, .reg .b => .res_6_B | 6, .reg .c => .res_6_C | 6, .reg .d => .res_6_D | 6, .reg .e => .res_6_E
  | 6, .reg .h => .res_6_H | 6, .reg .l => .res_6_L | 6, .memHL => .res_6_mHL | 6, .reg .a => .res_6_A
  | _, .reg .b => .res_7_B | _, .reg .c => .res_7_C | _, .reg .d => .res_7_D | _, .reg .e => .res_7_E
  | _, .reg .h => .res_7_H | _, .reg .l => .res_7_L | _, .memHL => .res_7_mHL | _, .reg .a => .res_7_A

/-- `SET b,x` (R227), by the bit's number; a number above 7, which no bit has, stands for 7. -/
def setI : Nat → Place → Instr
  | 0, .reg .b => .set_0_B | 0, .reg .c => .set_0_C | 0, .reg .d => .set_0_D | 0, .reg .e => .set_0_E
  | 0, .reg .h => .set_0_H | 0, .reg .l => .set_0_L | 0, .memHL => .set_0_mHL | 0, .reg .a => .set_0_A
  | 1, .reg .b => .set_1_B | 1, .reg .c => .set_1_C | 1, .reg .d => .set_1_D | 1, .reg .e => .set_1_E
  | 1, .reg .h => .set_1_H | 1, .reg .l => .set_1_L | 1, .memHL => .set_1_mHL | 1, .reg .a => .set_1_A
  | 2, .reg .b => .set_2_B | 2, .reg .c => .set_2_C | 2, .reg .d => .set_2_D | 2, .reg .e => .set_2_E
  | 2, .reg .h => .set_2_H | 2, .reg .l => .set_2_L | 2, .memHL => .set_2_mHL | 2, .reg .a => .set_2_A
  | 3, .reg .b => .set_3_B | 3, .reg .c => .set_3_C | 3, .reg .d => .set_3_D | 3, .reg .e => .set_3_E
  | 3, .reg .h => .set_3_H | 3, .reg .l => .set_3_L | 3, .memHL => .set_3_mHL | 3, .reg .a => .set_3_A
  | 4, .reg .b => .set_4_B | 4, .reg .c => .set_4_C | 4, .reg .d => .set_4_D | 4, .reg .e => .set_4_E
  | 4, .reg .h => .set_4_H | 4, .reg .l => .set_4_L | 4, .memHL => .set_4_mHL | 4, .reg .a => .set_4_A
  | 5, .reg .b => .set_5_B | 5, .reg .c => .set_5_C | 5, .reg .d => .set_5_D | 5, .reg .e => .set_5_E
  | 5, .reg .h => .set_5_H | 5, .reg .l => .set_5_L | 5, .memHL => .set_5_mHL | 5, .reg .a => .set_5_A
  | 6, .reg .b => .set_6_B | 6, .reg .c => .set_6_C | 6, .reg .d => .set_6_D | 6, .reg .e => .set_6_E
  | 6, .reg .h => .set_6_H | 6, .reg .l => .set_6_L | 6, .memHL => .set_6_mHL | 6, .reg .a => .set_6_A
  | _, .reg .b => .set_7_B | _, .reg .c => .set_7_C | _, .reg .d => .set_7_D | _, .reg .e => .set_7_E
  | _, .reg .h => .set_7_H | _, .reg .l => .set_7_L | _, .memHL => .set_7_mHL | _, .reg .a => .set_7_A

/-- `LD rr,nn` (R160). -/
def ldPairI : Reg16 → Word → Instr
  | .bc, nn => .ld_BC_nn nn | .de, nn => .ld_DE_nn nn | .hl, nn => .ld_HL_nn nn | .sp, nn => .ld_SP_nn nn

/-- `PUSH rr` (R165). -/
def pushI : StackReg → Instr
  | .bc => .push_BC | .de => .push_DE | .hl => .push_HL | .af => .push_AF

/-- `POP rr` (R166). -/
def popI : StackReg → Instr
  | .bc => .pop_BC | .de => .pop_DE | .hl => .pop_HL | .af => .pop_AF

/-- `ADD HL,rr` (R200). -/
def addHlI : Reg16 → Instr
  | .bc => .add_HL_BC | .de => .add_HL_DE | .hl => .add_HL_HL | .sp => .add_HL_SP

/-- `INC rr` (R201). -/
def incPairI : Reg16 → Instr
  | .bc => .inc_BC | .de => .inc_DE | .hl => .inc_HL | .sp => .inc_SP

/-- `DEC rr` (R202). -/
def decPairI : Reg16 → Instr
  | .bc => .dec_BC | .de => .dec_DE | .hl => .dec_HL | .sp => .dec_SP

/-- `JP cc,nn` (R242). -/
def jpIfI : Cond → Word → Instr
  | .nz, nn => .jp_NZ_nn nn | .z, nn => .jp_Z_nn nn
  | .nc, nn => .jp_NC_nn nn | .c, nn => .jp_C_nn nn

/-- `JR cc,e` (R245). -/
def jrIfI : Cond → Byte → Instr
  | .nz, e => .jr_NZ_e e | .z, e => .jr_Z_e e
  | .nc, e => .jr_NC_e e | .c, e => .jr_C_e e

/-- `CALL cc,nn` (R247). -/
def callIfI : Cond → Word → Instr
  | .nz, nn => .call_NZ_nn nn | .z, nn => .call_Z_nn nn
  | .nc, nn => .call_NC_nn nn | .c, nn => .call_C_nn nn

/-- `RET cc` (R249). -/
def retIfI : Cond → Instr
  | .nz => .ret_NZ | .z => .ret_Z | .nc => .ret_NC | .c => .ret_C

/-- `RST t` with `t = 8 * y` (R252); a number above 7, which no target has, stands for 7. -/
def rstI : Nat → Instr
  | 0 => .rst_00 | 1 => .rst_08 | 2 => .rst_10 | 3 => .rst_18
  | 4 => .rst_20 | 5 => .rst_28 | 6 => .rst_30 | _ => .rst_38

/-- The 11 rows of format `ILLEGAL` with their bytes (R117). -/
def illegalRows : List (Instr × Byte) :=
  [(.illegal_D3, 0xD3), (.illegal_DB, 0xDB), (.illegal_DD, 0xDD), (.illegal_E3, 0xE3),
   (.illegal_E4, 0xE4), (.illegal_EB, 0xEB), (.illegal_EC, 0xEC), (.illegal_ED, 0xED),
   (.illegal_F4, 0xF4), (.illegal_FC, 0xFC), (.illegal_FD, 0xFD)]
/-! ### Registers, flags and PC -/

/-- The word a pair selector names: the first register is the high byte (R22, R107). -/
def pairOf (s : State) : Reg16 → Word
  | .bc => s.b ++ s.c
  | .de => s.d ++ s.e
  | .hl => s.h ++ s.l
  | .sp => s.sp

/-- The registers a pair selector names. -/
def pairRegs : Reg16 → List Reg8
  | .bc => [.b, .c] | .de => [.d, .e] | .hl => [.h, .l] | .sp => []

/-- The first register of a pair of PUSH and POP (R22, R108). -/
def stackHigh (s : State) : StackReg → Byte
  | .bc => s.b | .de => s.d | .hl => s.h | .af => s.a

/-- The second register of a pair of PUSH and POP (R22, R108). -/
def stackLow (s : State) : StackReg → Byte
  | .bc => s.c | .de => s.e | .hl => s.l | .af => s.f

/-- The registers, other than F, of a pair of PUSH and POP. -/
def stackRegs : StackReg → List Reg8
  | .bc => [.b, .c] | .de => [.d, .e] | .hl => [.h, .l] | .af => [.a]

/-- The operand of the CB table, INC and DEC (R106, R214). -/
def operand (s : State) : Place → Byte
  | .reg r => s.reg8 r
  | .memHL => s.memRead (s.h ++ s.l)

/-- The second operand of an accumulator operation (R178). -/
def source (s : State) : Source → Byte
  | .reg r => s.reg8 r
  | .memHL => s.memRead (s.h ++ s.l)
  | .imm n => n

/-- Every register is as it was but those listed; F and SP are spoken of apart. -/
def RegsKept (except : List Reg8) (s t : State) : Prop := ∀ r, r ∉ except → t.reg8 r = s.reg8 r

/-- The flags of `t` are Z, N, H, C = `z`, `n`, `h`, `c` at bits 7 to 4 of F (R25), and bits 3 to 0 of F are as
they were. -/
def FlagsAre (s t : State) (z n h c : Bool) : Prop :=
  t.f.getLsbD 7 = z ∧ t.f.getLsbD 6 = n ∧ t.f.getLsbD 5 = h ∧ t.f.getLsbD 4 = c ∧
    t.f &&& 0x0F = s.f &&& 0x0F

/-- `Cond(c)` (R240). -/
def condTrue (s : State) : Cond → Bool
  | .nz => !s.f.getLsbD 7
  | .z => s.f.getLsbD 7
  | .nc => !s.f.getLsbD 4
  | .c => s.f.getLsbD 4

/-- PC once an instruction of `n` bytes has been fetched: its address plus `n`, or plus `n - 1` when the halt bug
keeps the opcode fetch from advancing PC (R29, R275). -/
def pcPast (s : State) (n : Nat) : Word :=
  if s.haltBug = true then s.pc + BitVec.ofNat 16 (n - 1) else s.pc + BitVec.ofNat 16 n

/-- What `CYCLES` gives for the instruction with table number `op`, taken or not, where its default is `n` (R6,
R350): an override of the parameter, or else the default. -/
def cyclesGiven (s : State) (op : Nat) (taken : Bool) (n : Nat) : Nat :=
  ((s.cfg.cycleOverrides.filter (fun o => o.op = op ∧ o.taken = taken)).map (fun o => o.cycles)).headD n

/-- The instruction completes: it reports its cycles, its opcode fetch has used up the halt bug (R275), and the
hidden state that only HALT, STOP, DI, EI and RETI write is as it was, as are the counters and parameters that no
instruction writes. -/
structure Ran (s t : State) (op : Nat) (taken : Bool) (n : Nat) : Prop where
  cycles : t.cycles = cyclesGiven s op taken n
  haltBug : t.haltBug = false
  ime : t.ime = s.ime
  latch : t.eiPending = s.eiPending
  halted : t.halted = s.halted
  timaCounter : t.timaCounter = s.timaCounter
  runState : t.runState = s.runState
  cfg : t.cfg = s.cfg
  env : t.env = s.env

/-- As `Ran`, with PC past the `len` bytes of an instruction that transfers no control (R29). -/
def RanThrough (s t : State) (op len n : Nat) : Prop := t.pc = pcPast s len ∧ Ran s t op true n

/-! ### The bus -/

/-- The address below the echo: `addr - 0x2000` for an echo address, else `addr` (R63). -/
def underEcho (addr : Word) : Word :=
  if 0xE000 ≤ addr.toNat ∧ addr.toNat ≤ 0xFDFF then addr - 0x2000 else addr

/-- Every byte after `MemWrite(addr, 1, v)` (R62), for a bus that reads as `bus` before: nothing changes for a
store to ROM that `ROM_WRITABLE` does not allow; a store to DIV clears it under `DIV_WRITE_RESETS`; any other
store replaces the byte, at both its addresses where it is echoed. -/
def busAfter (cfg : Config) (bus : Word → Byte) (addr : Word) (v : Byte) : Word → Byte := fun a =>
  if addr.toNat ≤ 0x7FFF ∧ cfg.romWritable = false then bus a
  else if addr = 0xFF04 ∧ cfg.divWriteResets = true then (if a = 0xFF04 then 0 else bus a)
  else if underEcho a = underEcho addr then v else bus a

/-- `div_counter` after a store to `addr` (R62). -/
def divAfter (cfg : Config) (counter : Nat) (addr : Word) : Nat :=
  if addr = 0xFF04 ∧ cfg.divWriteResets = true then 0 else counter

/-- Nothing is stored: every byte reads as before, and no store has cleared `div_counter`. -/
def BusKept (s t : State) : Prop := (∀ a, t.memRead a = s.memRead a) ∧ t.divCounter = s.divCounter

/-- Exactly one byte is stored, `v` at `addr`: every address reads as R62 says. -/
def StoresByte (s t : State) (addr : Word) (v : Byte) : Prop :=
  (∀ a, t.memRead a = busAfter s.cfg s.memRead addr v a) ∧ t.divCounter = divAfter s.cfg s.divCounter addr

/-- Exactly two bytes are stored, `v` at `addr` and then `w` at `addr'`. -/
def StoresTwo (s t : State) (addr : Word) (v : Byte) (addr' : Word) (w : Byte) : Prop :=
  (∀ a, t.memRead a = busAfter s.cfg (busAfter s.cfg s.memRead addr v) addr' w a) ∧
    t.divCounter = divAfter s.cfg (divAfter s.cfg s.divCounter addr) addr'

/-- The word `hi lo` is pushed (R12): SP falls by two, the high byte is stored at SP - 1, then the low byte at
SP - 2. -/
def Pushes (s t : State) (hi lo : Byte) : Prop :=
  t.sp = s.sp - 2 ∧ StoresTwo s t (s.sp - 1) hi (s.sp - 2) lo

/-- A word is popped (R12): SP rises by two and nothing is stored. -/
def Pops (s t : State) : Prop := t.sp = s.sp + 2 ∧ BusKept s t

/-- An operand that is written back: the register, or the byte at HL; every other register, SP and every other
byte is as it was (R106, R214). -/
def WritesOperand (s t : State) (x : Place) (v : Byte) : Prop :=
  match x with
  | .reg r => t.reg8 r = v ∧ RegsKept [r] s t ∧ BusKept s t
  | .memHL => RegsKept [] s t ∧ StoresByte s t (s.h ++ s.l) v


/-! ### 8-bit accumulator forms with an address (R135 to R146) -/

/-- A form that loads A from, or stores A to, one address: the instruction, its bytes, the address and the default
of its M-cycles. -/
structure AccForm where
  instr : Instr
  bytes : List Byte
  addr : Word
  cycles : Nat

/-- The loads of A (R135, R136, R139, R144, R146). -/
def accLoads (s : State) (n : Byte) (nn : Word) : List AccForm :=
  [⟨.ld_A_mBC, [0x0A], s.b ++ s.c, 2⟩, ⟨.ld_A_mDE, [0x1A], s.d ++ s.e, 2⟩,
   ⟨.ld_A_mnn nn, [0xFA, low nn, high nn], nn, 4⟩,
   ⟨.ldh_A_mn n, [0xF0, n], 0xFF00 + n.setWidth 16, 3⟩, ⟨.ldh_A_mC, [0xF2], 0xFF00 + s.c.setWidth 16, 2⟩]

/-- The stores of A (R137, R138, R140, R143, R145). -/
def accStores (s : State) (n : Byte) (nn : Word) : List AccForm :=
  [⟨.ld_mBC_A, [0x02], s.b ++ s.c, 2⟩, ⟨.ld_mDE_A, [0x12], s.d ++ s.e, 2⟩,
   ⟨.ld_mnn_A nn, [0xEA, low nn, high nn], nn, 4⟩,
   ⟨.ldh_mn_A n, [0xE0, n], 0xFF00 + n.setWidth 16, 3⟩, ⟨.ldh_mC_A, [0xE2], 0xFF00 + s.c.setWidth 16, 2⟩]

/-- The table number of a form: its first byte. -/
def AccForm.number (f : AccForm) : Nat := (f.bytes.headD 0).toNat

/-- What an accumulator operation leaves in A with its flags Z, N, H, C, where A was `a`, the operand is `x` and
the carry flag was `c` (R170 to R177), in exact integers as the rules write them. -/
def aluValue (k : AluOp) (a x : Byte) (c : Bool) : Byte × Bool × Bool × Bool × Bool :=
  let an := a.toNat
  let xn := x.toNat
  let cn := if c then 1 else 0
  match k with
  | .add => (BitVec.ofNat 8 ((an + xn) % 256), decide ((an + xn) % 256 = 0), false,
      decide (an % 16 + xn % 16 > 0xF), decide (an + xn > 0xFF))
  | .adc => (BitVec.ofNat 8 ((an + xn + cn) % 256), decide ((an + xn + cn) % 256 = 0), false,
      decide (an % 16 + xn % 16 + cn > 0xF), decide (an + xn + cn > 0xFF))
  | .sub => (BitVec.ofNat 8 ((an + 256 - xn) % 256), decide (an = xn), true,
      decide (xn % 16 > an % 16), decide (xn > an))
  | .sbc => (BitVec.ofNat 8 ((an + 512 - xn - cn) % 256), decide ((an + 512 - xn - cn) % 256 = 0), true,
      decide (xn % 16 + cn > an % 16), decide (xn + cn > an))
  | .and => (a &&& x, decide (a &&& x = 0), false, true, false)
  | .xor => (a ^^^ x, decide (a ^^^ x = 0), false, false, false)
  | .or => (a ||| x, decide (a ||| x = 0), false, false, false)
  | .cp => (a, decide (an = xn), true, decide (xn % 16 > an % 16), decide (xn > an))

/-- The bytes of an accumulator operation by its operand form (R178). -/
def aluBytes (k : AluOp) : Source → List Byte
  | .reg r => [xyz 2 (aluCode k) (regCode r)]
  | .memHL => [xyz 2 (aluCode k) 6]
  | .imm n => [xyz 3 (aluCode k) 6, n]

/-- The default cost of an accumulator operation by its operand form (R178). -/
def aluCycles : Source → Nat
  | .reg _ => 1
  | .memHL => 2
  | .imm _ => 2

/-- An accumulator operation does what its rule says: A and the four flags are as `aluValue` gives them from the
state before, and nothing else changes. -/
def AluRuns (k : AluOp) : Prop := ∀ (x : Source) (s : State),
  encode (aluI k x) = aluBytes k x ∧
  ∃ t, exec (aluI k x) s = .next t ∧
    (let v := aluValue k s.a (source s x) (s.f.getLsbD 4)
     t.a = v.1 ∧ FlagsAre s t v.2.1 v.2.2.1 v.2.2.2.1 v.2.2.2.2) ∧
    RegsKept [.a] s t ∧ t.sp = s.sp ∧ BusKept s t ∧
    RanThrough s t ((aluBytes k x).headD 0).toNat (aluBytes k x).length (aluCycles x)

/-- The byte a CB-table rotate or shift makes of `v`, and the bit that goes to C, where the carry flag was `c`
(R215 to R222). -/
def rotValue (k : RotOp) (v : Byte) (c : Bool) : Byte × Bool :=
  let n := v.toNat
  let b7 := n / 128
  let b0 := n % 2
  let cn := if c then 1 else 0
  match k with
  | .rlc => (BitVec.ofNat 8 (n * 2 % 256 + b7), decide (b7 = 1))
  | .rrc => (BitVec.ofNat 8 (n / 2 + b0 * 128), decide (b0 = 1))
  | .rl => (BitVec.ofNat 8 (n * 2 % 256 + cn), decide (b7 = 1))
  | .rr => (BitVec.ofNat 8 (n / 2 + cn * 128), decide (b0 = 1))
  | .sla => (BitVec.ofNat 8 (n * 2 % 256), decide (b7 = 1))
  | .sra => (BitVec.ofNat 8 (n / 2 + b7 * 128), decide (b0 = 1))
  | .swap => (BitVec.ofNat 8 (n % 16 * 16 + n / 16), false)
  | .srl => (BitVec.ofNat 8 (n / 2), decide (b0 = 1))

/-- The cost of a CB-table form by its operand: `reg` for a register, `mem` for `(HL)` (R214). -/
def cbCycles (x : Place) (mem : Nat) : Nat :=
  match x with
  | .reg _ => 2
  | .memHL => mem

/-- The decimal adjustment of R185: A and the carry, from A and the flags N, H, C. -/
def daaValue (a : Byte) (n h c : Bool) : Byte × Bool :=
  let lowAdj := if n then h else h || decide (a.toNat % 16 > 0x09)
  let highAdj := if n then c else c || decide (a.toNat > 0x99)
  let adj := (if lowAdj then 0x06 else 0) + (if highAdj then 0x60 else 0)
  (BitVec.ofNat 8 (if n then (a.toNat + 256 - adj) % 256 else (a.toNat + adj) % 256), highAdj)

/-! ### Steps -/

/-- The instruction whose bytes stand at PC is `i`: the opcode byte at PC, and the following bytes from where the
opcode fetch leaves PC (R275, R276). -/
def AtPc (s : State) (i : Instr) : Prop :=
  ∃ rest, decode [s.memRead s.pc, s.memRead (pcPast s 1), s.memRead (pcPast s 2)] = .ok (i, rest)

/-- The step of `s` executes an instruction (R270): it neither dispatches nor idles. -/
def Executes (s : State) : Prop :=
  s.runState = .running ∧ (s.ime = false ∨ s.pending = 0) ∧ (s.halted = false ∨ s.pending ≠ 0)

/-- The instructions of spec/45_control_flow.md: the only ones that set PC to anything but the address past their
bytes (R29). -/
def TransfersControl (i : Instr) : Prop :=
  (∃ nn, i = .jp_nn nn) ∨ i = .jp_HL ∨ (∃ e, i = .jr_e e) ∨ (∃ k nn, i = jpIfI k nn) ∨ (∃ k e, i = jrIfI k e) ∨
  (∃ nn, i = .call_nn nn) ∨ (∃ k nn, i = callIfI k nn) ∨ i = .ret ∨ (∃ k, i = retIfI k) ∨ i = .reti ∨
  (∃ y, i = rstI y)

/-- The loop of R301 on `div_counter` and DIV, run at most `fuel` times. -/
def divLoop : Nat → Nat → Byte → Nat × Byte
  | 0, counter, div => (counter, div)
  | fuel + 1, counter, div => if counter ≥ 64 then divLoop fuel (counter - 64) (div + 1) else (counter, div)

/-- The loop of R302 on `tima_counter`, TIMA and IF, run at most `fuel` times. -/
def timaLoop (period : Nat) (tma : Byte) : Nat → Nat → Byte → Byte → Nat × Byte × Byte
  | 0, counter, tima, iflag => (counter, tima, iflag)
  | fuel + 1, counter, tima, iflag =>
    if counter ≥ period then
      (if tima = 0xFF then timaLoop period tma fuel (counter - period) tma (iflag ||| 0x04)
       else timaLoop period tma fuel (counter - period) (tima + 1) iflag)
    else (counter, tima, iflag)

/-- The period `[256, 4, 16, 64][TAC.select]` (R302). -/
def period (tac : Byte) : Nat := [256, 4, 16, 64].getD (tac.toNat % 4) 0

/-- The instructions that write a flag, by the table of R26; the prefix row stands for the entries it names. -/
def WritesFlags (i : Instr) : Prop :=
  (∃ k x, i = aluI k x) ∨ (∃ x, i = incI x) ∨ (∃ x, i = decI x) ∨ (∃ p, i = addHlI p) ∨
  (∃ k x, i = rotI k x) ∨ (∃ b x, i = bitI b x) ∨ (∃ e, i = .add_SP_e e) ∨ (∃ e, i = .ld_HL_SPe e) ∨
  i ∈ [.daa, .cpl, .scf, .ccf, .rlca, .rrca, .rla, .rra, .pop_AF, .cbPrefix]

/-- The byte that the last of a list of writes to the address, or to its echo, gives it (R63). -/
def lastGiven (cells : List (Word × Byte)) (a : Word) : Option Byte :=
  cells.foldl (fun got cell => if underEcho cell.1 = underEcho a then some cell.2 else got) none

/-- The addresses whose bytes the timer writes: DIV, TIMA and IF (R300 to R302). -/
def timerBytes : List Word := [0xFF04, 0xFF05, 0xFF0F]

end Sys2Proof.Stated

open Sys2Proof.Stated

/-! ## 8-bit loads (spec/40_load8.md) -/

/-- R130, R131, R132: `LD r,r'` copies one register to another, and with `r = r'` nothing changes but PC; `LD r,n`
loads the immediate; `LD r,(HL)` loads the byte at HL, formed before H or L is written. -/
def Obligations.LoadRegister : Prop := ∀ (r : Reg8) (s : State),
  (∀ r' : Reg8, encode (ldRR r r') = [xyz 1 (regCode r) (regCode r')] ∧
    ∃ t, exec (ldRR r r') s = .next t ∧
      t.reg8 r = s.reg8 r' ∧ RegsKept [r] s t ∧ t.f = s.f ∧ t.sp = s.sp ∧ BusKept s t ∧
      RanThrough s t (xyz 1 (regCode r) (regCode r')).toNat 1 1) ∧
  (∀ n : Byte, encode (ldRN r n) = [xyz 0 (regCode r) 6, n] ∧
    ∃ t, exec (ldRN r n) s = .next t ∧
      t.reg8 r = n ∧ RegsKept [r] s t ∧ t.f = s.f ∧ t.sp = s.sp ∧ BusKept s t ∧
      RanThrough s t (xyz 0 (regCode r) 6).toNat 2 2) ∧
  (encode (ldRM r) = [xyz 1 (regCode r) 6] ∧
    ∃ t, exec (ldRM r) s = .next t ∧
      t.reg8 r = s.memRead (s.h ++ s.l) ∧ RegsKept [r] s t ∧ t.f = s.f ∧ t.sp = s.sp ∧ BusKept s t ∧
      RanThrough s t (xyz 1 (regCode r) 6).toNat 1 2)

/-- R133, R134: `LD (HL),r` and `LD (HL),n` store one byte at HL and change nothing else. -/
def Obligations.StoreByteToMemoryAtHL : Prop := ∀ s : State, Memory.wf s.mem →
  (∀ r : Reg8, encode (ldMR r) = [xyz 1 6 (regCode r)] ∧
    ∃ t, exec (ldMR r) s = .next t ∧
      StoresByte s t (s.h ++ s.l) (s.reg8 r) ∧ RegsKept [] s t ∧ t.f = s.f ∧ t.sp = s.sp ∧
      RanThrough s t (xyz 1 6 (regCode r)).toNat 1 2) ∧
  (∀ n : Byte, encode (.ld_mHL_n n) = [0x36, n] ∧
    ∃ t, exec (.ld_mHL_n n) s = .next t ∧
      StoresByte s t (s.h ++ s.l) n ∧ RegsKept [] s t ∧ t.f = s.f ∧ t.sp = s.sp ∧ RanThrough s t 0x36 2 3)

/-- R135, R136, R139, R144, R146: each load of A reads the byte at its address. -/
def Obligations.LoadAccumulator : Prop := ∀ (s : State) (n : Byte) (nn : Word), ∀ f ∈ accLoads s n nn,
  encode f.instr = f.bytes ∧
  ∃ t, exec f.instr s = .next t ∧
    t.a = s.memRead f.addr ∧ RegsKept [.a] s t ∧ t.f = s.f ∧ t.sp = s.sp ∧ BusKept s t ∧
    RanThrough s t f.number f.bytes.length f.cycles

/-- R137, R138, R140, R143, R145: each store of A stores it at its address and changes nothing else. -/
def Obligations.StoreAccumulator : Prop := ∀ (s : State) (n : Byte) (nn : Word), Memory.wf s.mem →
  ∀ f ∈ accStores s n nn,
  encode f.instr = f.bytes ∧
  ∃ t, exec f.instr s = .next t ∧
    StoresByte s t f.addr s.a ∧ RegsKept [] s t ∧ t.f = s.f ∧ t.sp = s.sp ∧
    RanThrough s t f.number f.bytes.length f.cycles

/-- R141, R142, R147, R148: `LD (HL+),A`, `LD A,(HL+)`, `LD (HL-),A`, `LD A,(HL-)` access the byte at the old HL,
then move HL by one, modulo 65536. -/
def Obligations.AccumulatorWithHLStepping : Prop := ∀ s : State,
  (encode .ld_HLinc_A = [0x22] ∧ encode .ld_A_HLinc = [0x2A] ∧ encode .ld_HLdec_A = [0x32] ∧
    encode .ld_A_HLdec = [0x3A]) ∧
  (∀ form ∈ [(Instr.ld_A_HLinc, 0x2A, (1 : Word)), (Instr.ld_A_HLdec, 0x3A, (-1 : Word))],
    ∃ t, exec form.1 s = .next t ∧
      t.a = s.memRead (s.h ++ s.l) ∧ t.h ++ t.l = (s.h ++ s.l) + form.2.2 ∧
      RegsKept [.a, .h, .l] s t ∧ t.f = s.f ∧ t.sp = s.sp ∧ BusKept s t ∧ RanThrough s t form.2.1 1 2) ∧
  (Memory.wf s.mem →
    ∀ form ∈ [(Instr.ld_HLinc_A, 0x22, (1 : Word)), (Instr.ld_HLdec_A, 0x32, (-1 : Word))],
    ∃ t, exec form.1 s = .next t ∧
      StoresByte s t (s.h ++ s.l) s.a ∧ t.h ++ t.l = (s.h ++ s.l) + form.2.2 ∧
      RegsKept [.h, .l] s t ∧ t.f = s.f ∧ t.sp = s.sp ∧ RanThrough s t form.2.1 1 2)

/-! ## 16-bit loads and the stack (spec/41_load16_stack.md) -/

/-- R160, R162: `LD rr,nn` loads the pair; `LD SP,HL` copies HL to SP. -/
def Obligations.LoadPair : Prop := ∀ s : State,
  (∀ (p : Reg16) (nn : Word), encode (ldPairI p nn) = [xpqz 0 (pairCode p) 0 1, low nn, high nn] ∧
    ∃ t, exec (ldPairI p nn) s = .next t ∧
      pairOf t p = nn ∧ RegsKept (pairRegs p) s t ∧ (p = .sp ∨ t.sp = s.sp) ∧ t.f = s.f ∧ BusKept s t ∧
      RanThrough s t (xpqz 0 (pairCode p) 0 1).toNat 3 3) ∧
  (encode .ld_SP_HL = [0xF9] ∧
    ∃ t, exec .ld_SP_HL s = .next t ∧
      t.sp = s.h ++ s.l ∧ RegsKept [] s t ∧ t.f = s.f ∧ BusKept s t ∧ RanThrough s t 0xF9 1 2)

/-- R161: `LD (nn),SP` stores the low byte of SP at `nn` and the high byte at `nn + 1` modulo 65536. -/
def Obligations.StoreStackPointer : Prop := ∀ (nn : Word) (s : State), Memory.wf s.mem →
  encode (.ld_mnn_SP nn) = [0x08, low nn, high nn] ∧
  ∃ t, exec (.ld_mnn_SP nn) s = .next t ∧
    StoresTwo s t nn (low s.sp) (nn + 1) (high s.sp) ∧ RegsKept [] s t ∧ t.f = s.f ∧ t.sp = s.sp ∧
    RanThrough s t 0x08 3 5

/-- R163, R203, with the flag laws of decision D32 (the spec's own choice): `LD HL,SP+e` and `ADD SP,e` add the
sign-extended displacement to SP; Z and N are 0, H and C are the 8-bit carries of the low byte of SP and the
unsigned byte. -/
def Obligations.StackPointerPlusDisplacement : Prop := ∀ (e : Byte) (s : State),
  (encode (.ld_HL_SPe e) = [0xF8, e] ∧ encode (.add_SP_e e) = [0xE8, e]) ∧
  (∃ t, exec (.ld_HL_SPe e) s = .next t ∧
    t.h ++ t.l = BitVec.ofInt 16 (s.sp.toNat + e.toInt) ∧ t.sp = s.sp ∧ RegsKept [.h, .l] s t ∧
    FlagsAre s t false false (decide (s.sp.toNat % 16 + e.toNat % 16 > 0xF))
      (decide (s.sp.toNat % 256 + e.toNat > 0xFF)) ∧
    BusKept s t ∧ RanThrough s t 0xF8 2 3) ∧
  (∃ t, exec (.add_SP_e e) s = .next t ∧
    t.sp = BitVec.ofInt 16 (s.sp.toNat + e.toInt) ∧ RegsKept [] s t ∧
    FlagsAre s t false false (decide (s.sp.toNat % 16 + e.toNat % 16 > 0xF))
      (decide (s.sp.toNat % 256 + e.toNat > 0xFF)) ∧
    BusKept s t ∧ RanThrough s t 0xE8 2 4)

/-- R165: `PUSH rr` pushes the pair. -/
def Obligations.PushPair : Prop := ∀ (p : StackReg) (s : State), Memory.wf s.mem →
  encode (pushI p) = [xpqz 3 (stackCode p) 0 5] ∧
  ∃ t, exec (pushI p) s = .next t ∧
    Pushes s t (stackHigh s p) (stackLow s p) ∧ RegsKept [] s t ∧ t.f = s.f ∧
    RanThrough s t (xpqz 3 (stackCode p) 0 5).toNat 1 4

/-- R166: `POP rr` pops the pair; into AF the low nibble of the byte for F is discarded. -/
def Obligations.PopPair : Prop := ∀ (p : StackReg) (s : State),
  encode (popI p) = [xpqz 3 (stackCode p) 0 1] ∧
  ∃ t, exec (popI p) s = .next t ∧
    Pops s t ∧ stackHigh t p = s.memRead (s.sp + 1) ∧
    stackLow t p = (if p = .af then s.memRead s.sp &&& 0xF0 else s.memRead s.sp) ∧
    RegsKept (stackRegs p) s t ∧ (p = .af ∨ t.f = s.f) ∧
    RanThrough s t (xpqz 3 (stackCode p) 0 1).toNat 1 3

/-- R166: a pair pushed where both bytes land in memory that keeps them, and popped into a pair, comes back, and SP
returns; the low nibble of F is 0 before, as it is in every reachable state (R23), and a low byte popped into F loses
its low nibble. -/
def Obligations.PushThenPopReturnsPair : Prop := ∀ (p q : StackReg) (s : State),
  Memory.wf s.mem → s.f &&& 0x0F = 0 →
  (∀ a ∈ [s.sp - 1, s.sp - 2], 0x8000 ≤ a.toNat ∧ a ≠ 0xFF04) →
  ∃ t u, exec (pushI p) s = .next t ∧ exec (popI q) t = .next u ∧ u.sp = s.sp ∧
    stackHigh u q = stackHigh s p ∧
    stackLow u q = (if q = .af then stackLow s p &&& 0xF0 else stackLow s p) ∧
    (q = p → stackLow u q = stackLow s p)

/-! ## 8-bit arithmetic and logic (spec/42_alu8.md) -/

/-- R170, R172, R174 to R177: `ADD A,x`, `SUB x`, `AND x`, `XOR x`, `OR x` and `CP x`, in the register, memory and
immediate forms. -/
def Obligations.AccumulatorOperations : Prop :=
  AluRuns .add ∧ AluRuns .sub ∧ AluRuns .and ∧ AluRuns .xor ∧ AluRuns .or ∧ AluRuns .cp

/-- R171, R173, with the carry inside both comparisons by decision D33 (the spec's own choice): `ADC A,x` and
`SBC A,x`. -/
def Obligations.AddAndSubtractWithCarry : Prop := AluRuns .adc ∧ AluRuns .sbc

/-- R180 to R183: `INC` and `DEC` of a register or of the byte at HL: Z from the result; `INC` clears N and sets H out of
bit 3, `DEC` sets N and takes H as the borrow from bit 4; C unchanged. -/
def Obligations.IncrementAndDecrementByte : Prop := ∀ (x : Place) (s : State), Memory.wf s.mem →
  (encode (incI x) = [xyz 0 (placeCode x) 4] ∧
    ∃ t, exec (incI x) s = .next t ∧
      WritesOperand s t x (BitVec.ofNat 8 ((operand s x).toNat + 1)) ∧
      FlagsAre s t (decide ((operand s x).toNat = 0xFF)) false (decide ((operand s x).toNat % 16 = 0xF))
        (s.f.getLsbD 4) ∧
      t.sp = s.sp ∧ RanThrough s t (xyz 0 (placeCode x) 4).toNat 1 (if x = .memHL then 3 else 1)) ∧
  (encode (decI x) = [xyz 0 (placeCode x) 5] ∧
    ∃ t, exec (decI x) s = .next t ∧
      WritesOperand s t x (BitVec.ofNat 8 ((operand s x).toNat + 255)) ∧
      FlagsAre s t (decide ((operand s x).toNat = 1)) true (decide ((operand s x).toNat % 16 = 0))
        (s.f.getLsbD 4) ∧
      t.sp = s.sp ∧ RanThrough s t (xyz 0 (placeCode x) 5).toNat 1 (if x = .memHL then 3 else 1))

/-- R185, with the algorithm of decision D33 (the spec's own choice): `DAA`. -/
def Obligations.DecimalAdjust : Prop := ∀ s : State, encode .daa = [0x27] ∧
  ∃ t, exec .daa s = .next t ∧
    (let v := daaValue s.a (s.f.getLsbD 6) (s.f.getLsbD 5) (s.f.getLsbD 4)
     t.a = v.1 ∧ FlagsAre s t (decide (v.1 = 0)) (s.f.getLsbD 6) false v.2) ∧
    RegsKept [.a] s t ∧ t.sp = s.sp ∧ BusKept s t ∧ RanThrough s t 0x27 1 1

/-- R186, R187, R188: `CPL` complements A and sets N and H; `SCF` sets C and `CCF` inverts it, both clearing N and H;
none writes Z. -/
def Obligations.ComplementAndCarryFlag : Prop := ∀ s : State,
  (encode .cpl = [0x2F] ∧ encode .scf = [0x37] ∧ encode .ccf = [0x3F]) ∧
  (∃ t, exec .cpl s = .next t ∧ t.a = s.a ^^^ 0xFF ∧
    FlagsAre s t (s.f.getLsbD 7) true true (s.f.getLsbD 4) ∧
    RegsKept [.a] s t ∧ t.sp = s.sp ∧ BusKept s t ∧ RanThrough s t 0x2F 1 1) ∧
  (∃ t, exec .scf s = .next t ∧ FlagsAre s t (s.f.getLsbD 7) false false true ∧
    RegsKept [] s t ∧ t.sp = s.sp ∧ BusKept s t ∧ RanThrough s t 0x37 1 1) ∧
  (∃ t, exec .ccf s = .next t ∧ FlagsAre s t (s.f.getLsbD 7) false false (!s.f.getLsbD 4) ∧
    RegsKept [] s t ∧ t.sp = s.sp ∧ BusKept s t ∧ RanThrough s t 0x3F 1 1)

/-! ## 16-bit arithmetic (spec/43_alu16.md) -/

/-- R200, R201, R202: `ADD HL,rr`: H out of bit 11, C out of bit 15, N 0, Z unchanged; `INC rr` and `DEC rr` step a
pair or SP modulo 65536 and change no flag. -/
def Obligations.PairArithmetic : Prop := ∀ (p : Reg16) (s : State),
  (encode (addHlI p) = [xpqz 0 (pairCode p) 1 1] ∧ encode (incPairI p) = [xpqz 0 (pairCode p) 0 3] ∧
    encode (decPairI p) = [xpqz 0 (pairCode p) 1 3]) ∧
  (∃ t, exec (addHlI p) s = .next t ∧
    t.h ++ t.l = BitVec.ofNat 16 ((s.h ++ s.l).toNat + (pairOf s p).toNat) ∧
    FlagsAre s t (s.f.getLsbD 7) false
      (decide ((s.h ++ s.l).toNat % 0x1000 + (pairOf s p).toNat % 0x1000 > 0xFFF))
      (decide ((s.h ++ s.l).toNat + (pairOf s p).toNat > 0xFFFF)) ∧
    RegsKept [.h, .l] s t ∧ t.sp = s.sp ∧ BusKept s t ∧
    RanThrough s t (xpqz 0 (pairCode p) 1 1).toNat 1 2) ∧
  (∃ t, exec (incPairI p) s = .next t ∧
    pairOf t p = BitVec.ofNat 16 ((pairOf s p).toNat + 1) ∧ RegsKept (pairRegs p) s t ∧
    (p = .sp ∨ t.sp = s.sp) ∧ t.f = s.f ∧ BusKept s t ∧
    RanThrough s t (xpqz 0 (pairCode p) 0 3).toNat 1 2) ∧
  (∃ t, exec (decPairI p) s = .next t ∧
    pairOf t p = BitVec.ofNat 16 ((pairOf s p).toNat + 65535) ∧ RegsKept (pairRegs p) s t ∧
    (p = .sp ∨ t.sp = s.sp) ∧ t.f = s.f ∧ BusKept s t ∧
    RanThrough s t (xpqz 0 (pairCode p) 1 3).toNat 1 2)

/-! ## Rotates, shifts and bits (spec/44_rotate_shift_bit.md) -/

/-- R210 to R213: `RLCA`, `RRCA`, `RLA`, `RRA` rotate A as `RLC`, `RRC`, `RL`, `RR` do, with Z forced to 0. -/
def Obligations.RotateAccumulator : Prop := ∀ s : State,
  ∀ form ∈ [(Instr.rlca, (0x07 : Byte), RotOp.rlc), (Instr.rrca, 0x0F, RotOp.rrc), (Instr.rla, 0x17, RotOp.rl),
    (Instr.rra, 0x1F, RotOp.rr)],
  encode form.1 = [form.2.1] ∧
  ∃ t, exec form.1 s = .next t ∧
    (let v := rotValue form.2.2 s.a (s.f.getLsbD 4)
     t.a = v.1 ∧ FlagsAre s t false false false v.2) ∧
    RegsKept [.a] s t ∧ t.sp = s.sp ∧ BusKept s t ∧ RanThrough s t form.2.1.toNat 1 1

/-- R215 to R222: `RLC`, `RRC`, `RL`, `RR`, `SLA`, `SRA`, `SWAP`, `SRL` on a register or the byte at HL: the result is
written back, Z is set from it, N and H are cleared, and C is the bit that falls out (0 for SWAP). -/
def Obligations.RotateAndShift : Prop := ∀ (k : RotOp) (x : Place) (s : State), Memory.wf s.mem →
  encode (rotI k x) = [0xCB, xyz 0 (rotCode k) (placeCode x)] ∧
  ∃ t, exec (rotI k x) s = .next t ∧
    (let v := rotValue k (operand s x) (s.f.getLsbD 4)
     WritesOperand s t x v.1 ∧ FlagsAre s t (decide (v.1 = 0)) false false v.2) ∧
    t.sp = s.sp ∧ RanThrough s t (0xCB00 + (xyz 0 (rotCode k) (placeCode x)).toNat) 2 (cbCycles x 4)

/-- R225: `BIT b,x`: Z is the complement of the bit, N 0, H 1, C unchanged, and nothing is written back. -/
def Obligations.TestBit : Prop := ∀ (b : Nat) (x : Place) (s : State), b < 8 →
  encode (bitI b x) = [0xCB, xyz 1 (BitVec.ofNat 3 b) (placeCode x)] ∧
  ∃ t, exec (bitI b x) s = .next t ∧
    FlagsAre s t (!(operand s x).getLsbD b) false true (s.f.getLsbD 4) ∧
    RegsKept [] s t ∧ t.sp = s.sp ∧ BusKept s t ∧
    RanThrough s t (0xCB00 + (xyz 1 (BitVec.ofNat 3 b) (placeCode x)).toNat) 2 (cbCycles x 3)

/-- R226, R227: `RES b,x` clears and `SET b,x` sets the bit of the operand, leaves its other bits, and writes the
byte back; no flag changes. -/
def Obligations.ResetAndSetBit : Prop := ∀ (b : Nat) (x : Place) (s : State), b < 8 → Memory.wf s.mem →
  ∀ form ∈ [(resI b x, (2 : BitVec 2), false), (setI b x, (3 : BitVec 2), true)],
  encode form.1 = [0xCB, xyz form.2.1 (BitVec.ofNat 3 b) (placeCode x)] ∧
  ∃ t v, exec form.1 s = .next t ∧
    WritesOperand s t x v ∧ v.getLsbD b = form.2.2 ∧ (∀ j, j ≠ b → v.getLsbD j = (operand s x).getLsbD j) ∧
    t.f = s.f ∧ t.sp = s.sp ∧
    RanThrough s t (0xCB00 + (xyz form.2.1 (BitVec.ofNat 3 b) (placeCode x)).toNat) 2 (cbCycles x 4)

/-! ## Control transfer (spec/45_control_flow.md) -/

/-- R241, R243, R244: `JP nn`, `JP HL` and `JR e` set PC and nothing else; the displacement is signed and added to PC
once both bytes are consumed. -/
def Obligations.Jump : Prop := ∀ s : State,
  (∀ nn : Word, encode (.jp_nn nn) = [0xC3, low nn, high nn] ∧
    ∃ t, exec (.jp_nn nn) s = .next t ∧ t.pc = nn ∧
      RegsKept [] s t ∧ t.f = s.f ∧ t.sp = s.sp ∧ BusKept s t ∧ Ran s t 0xC3 true 4) ∧
  (encode .jp_HL = [0xE9] ∧
    ∃ t, exec .jp_HL s = .next t ∧ t.pc = s.h ++ s.l ∧
      RegsKept [] s t ∧ t.f = s.f ∧ t.sp = s.sp ∧ BusKept s t ∧ Ran s t 0xE9 true 1) ∧
  (∀ e : Byte, encode (.jr_e e) = [0x18, e] ∧
    ∃ t, exec (.jr_e e) s = .next t ∧ t.pc = BitVec.ofInt 16 ((pcPast s 2).toNat + e.toInt) ∧
      RegsKept [] s t ∧ t.f = s.f ∧ t.sp = s.sp ∧ BusKept s t ∧ Ran s t 0x18 true 3)

/-- R242, R245, with the conditions of R240: `JP cc,nn` and `JR cc,e` jump when the condition holds and fall through
past all their bytes when it does not. -/
def Obligations.ConditionalJump : Prop := ∀ (k : Cond) (s : State),
  (∀ nn : Word, encode (jpIfI k nn) = [xyz 3 ((condCode k).setWidth 3) 2, low nn, high nn] ∧
    ∃ t, exec (jpIfI k nn) s = .next t ∧ t.pc = (if condTrue s k = true then nn else pcPast s 3) ∧
      RegsKept [] s t ∧ t.f = s.f ∧ t.sp = s.sp ∧ BusKept s t ∧
      Ran s t (xyz 3 ((condCode k).setWidth 3) 2).toNat (condTrue s k) (if condTrue s k = true then 4 else 3)) ∧
  (∀ e : Byte, encode (jrIfI k e) = [xyz 0 (4 + (condCode k).setWidth 3) 0, e] ∧
    ∃ t, exec (jrIfI k e) s = .next t ∧
      t.pc = (if condTrue s k = true then BitVec.ofInt 16 ((pcPast s 2).toNat + e.toInt) else pcPast s 2) ∧
      RegsKept [] s t ∧ t.f = s.f ∧ t.sp = s.sp ∧ BusKept s t ∧
      Ran s t (xyz 0 (4 + (condCode k).setWidth 3) 0).toNat (condTrue s k)
        (if condTrue s k = true then 3 else 2))

/-- R246, R247: `CALL nn` pushes the address after it and goes to `nn`; `CALL cc,nn` does so when the condition holds,
and otherwise leaves SP and memory alone. -/
def Obligations.Call : Prop := ∀ (nn : Word) (s : State), Memory.wf s.mem →
  (encode (.call_nn nn) = [0xCD, low nn, high nn] ∧
    ∃ t, exec (.call_nn nn) s = .next t ∧
      t.pc = nn ∧ Pushes s t (high (pcPast s 3)) (low (pcPast s 3)) ∧
      RegsKept [] s t ∧ t.f = s.f ∧ Ran s t 0xCD true 6) ∧
  (∀ k : Cond, encode (callIfI k nn) = [xyz 3 ((condCode k).setWidth 3) 4, low nn, high nn] ∧
    ∃ t, exec (callIfI k nn) s = .next t ∧ RegsKept [] s t ∧ t.f = s.f ∧
      (if condTrue s k = true then
        t.pc = nn ∧ Pushes s t (high (pcPast s 3)) (low (pcPast s 3)) ∧
          Ran s t (xyz 3 ((condCode k).setWidth 3) 4).toNat true 6
       else
        t.pc = pcPast s 3 ∧ t.sp = s.sp ∧ BusKept s t ∧
          Ran s t (xyz 3 ((condCode k).setWidth 3) 4).toNat false 3))

/-- R248, R249: `RET` pops PC, low byte from SP and high byte from SP + 1; `RET cc`
does so when the condition holds. -/
def Obligations.Return : Prop := ∀ s : State,
  (encode .ret = [0xC9] ∧
    ∃ t, exec .ret s = .next t ∧ t.pc = s.memRead (s.sp + 1) ++ s.memRead s.sp ∧ Pops s t ∧
      RegsKept [] s t ∧ t.f = s.f ∧ Ran s t 0xC9 true 4) ∧
  (∀ k : Cond, encode (retIfI k) = [xyz 3 ((condCode k).setWidth 3) 0] ∧
    ∃ t, exec (retIfI k) s = .next t ∧ RegsKept [] s t ∧ t.f = s.f ∧
      (if condTrue s k = true then
        t.pc = s.memRead (s.sp + 1) ++ s.memRead s.sp ∧ Pops s t ∧
          Ran s t (xyz 3 ((condCode k).setWidth 3) 0).toNat true 5
       else
        t.pc = pcPast s 1 ∧ t.sp = s.sp ∧ BusKept s t ∧
          Ran s t (xyz 3 ((condCode k).setWidth 3) 0).toNat false 2))

/-- R251, with IME set at once by decision D16 (the spec's own choice): `RETI` pops PC and sets IME, and leaves the
enable latch alone. -/
def Obligations.ReturnFromInterrupt : Prop := ∀ s : State, encode .reti = [0xD9] ∧
  ∃ t, exec .reti s = .next t ∧
    t.pc = s.memRead (s.sp + 1) ++ s.memRead s.sp ∧ Pops s t ∧ t.ime = true ∧
    RegsKept [] s t ∧ t.f = s.f ∧ Ran { s with ime := true } t 0xD9 true 4

/-- R252: `RST t` pushes the address after it and goes to `8 * y`; IME is as it was. -/
def Obligations.Restart : Prop := ∀ (y : Nat) (s : State), y < 8 → Memory.wf s.mem →
  encode (rstI y) = [xyz 3 (BitVec.ofNat 3 y) 7] ∧
  ∃ t, exec (rstI y) s = .next t ∧
    t.pc = BitVec.ofNat 16 (8 * y) ∧ Pushes s t (high (pcPast s 1)) (low (pcPast s 1)) ∧
    RegsKept [] s t ∧ t.f = s.f ∧ Ran s t (xyz 3 (BitVec.ofNat 3 y) 7).toNat true 4

/-! ## CPU control (spec/46_cpu_control.md) -/

/-- R260: `NOP` changes nothing but PC. -/
def Obligations.NoOperation : Prop := ∀ s : State, encode .nop = [0x00] ∧
  ∃ t, exec .nop s = .next t ∧
    RegsKept [] s t ∧ t.f = s.f ∧ t.sp = s.sp ∧ BusKept s t ∧ RanThrough s t 0x00 1 1

/-- R261, with decisions D19 and D20 (the spec's own choices): `HALT` sets the halt bug when IME is 0 and a request is
pending and enabled, and otherwise halts. -/
def Obligations.HaltHaltsOrArmsHaltBug : Prop := ∀ s : State, encode .halt = [0x76] ∧
  ∃ t, exec .halt s = .next t ∧ t.pc = pcPast s 1 ∧
    RegsKept [] s t ∧ t.f = s.f ∧ t.sp = s.sp ∧ BusKept s t ∧
    (if s.ime = false ∧ s.memRead 0xFF0F &&& s.memRead 0xFFFF &&& 0x1F ≠ 0 then
      t.haltBug = true ∧ Ran s { t with haltBug := false } 0x76 true 1
     else t.halted = true ∧ Ran { s with halted := true } t 0x76 true 1)

/-- R262 with decision D22, R263 with decision D15 (the spec's own choices), and the step of R264 that executes EI:
`STOP` stops the core, `DI` clears IME and the enable latch, `EI` sets the latch and leaves IME. -/
def Obligations.StopAndInterruptEnable : Prop := ∀ s : State,
  (encode .stop = [0x10] ∧
    ∃ t, exec .stop s = .next t ∧ t.pc = pcPast s 1 ∧ t.runState = .stopped ∧
      RegsKept [] s t ∧ t.f = s.f ∧ t.sp = s.sp ∧ BusKept s t ∧
      Ran { s with runState := .stopped } t 0x10 true 1) ∧
  (encode .di = [0xF3] ∧
    ∃ t, exec .di s = .next t ∧ t.pc = pcPast s 1 ∧ t.ime = false ∧ t.eiPending = false ∧
      RegsKept [] s t ∧ t.f = s.f ∧ t.sp = s.sp ∧ BusKept s t ∧
      Ran { s with ime := false, eiPending := false } t 0xF3 true 1) ∧
  (encode .ei = [0xFB] ∧
    ∃ t, exec .ei s = .next t ∧ t.pc = pcPast s 1 ∧ t.eiPending = true ∧ t.ime = s.ime ∧
      RegsKept [] s t ∧ t.f = s.f ∧ t.sp = s.sp ∧ BusKept s t ∧
      Ran { s with eiPending := true } t 0xFB true 1)

/-! ## Decoding (spec/30_encoding.md) -/

/-- R119, with the reading of log entry 7 (the model's own, DEDUCED) that the row PREFIX_CB taken by itself has a
meaning: the prefix row performs the entry of the extended table that its second byte names. -/
def Obligations.PrefixPerformsExtendedEntry : Prop := ∀ s : State,
  ∃ i t, decode [0xCB, s.memRead (pcPast s 1)] = .ok (i, []) ∧ i ≠ .cbPrefix ∧
    exec .cbPrefix s = .next t ∧ exec i s = .next t

/-- Decoding the encoding of a well-formed instruction gives it back, whatever follows it, for every operand. -/
def Obligations.DecodeEncodeRoundTrip : Prop := ∀ (i : Instr) (rest : List Byte),
  i.wellFormed = true → decode (encode i ++ rest) = .ok (i, rest)

/-- What the decoder reads off a list of bytes is the encoding of the instruction it names, so no two lists of bytes
of one length stand for the same instruction, and no bit of an encoding is dropped. -/
def Obligations.EncodeDecodeRoundTrip : Prop := ∀ (bytes rest : List Byte) (i : Instr),
  decode bytes = .ok (i, rest) → i.wellFormed = true → bytes = encode i ++ rest

/-- R102: the length of a defined instruction is a function of the first byte alone, as the rule lists it. -/
def Obligations.LengthFromFirstByte : Prop := ∀ (op : Byte) (tail rest : List Byte) (i : Instr),
  decode (op :: tail) = .ok (i, rest) → i.wellFormed = true → i.isIllegal = false →
  (op :: tail).length = rest.length +
    (if op ∈ ([0x01, 0x11, 0x21, 0x31, 0x08, 0xC2, 0xC3, 0xC4, 0xCA, 0xCC, 0xCD, 0xD2, 0xD4, 0xDA, 0xDC, 0xEA,
        0xFA] : List Byte) then 3
     else if op ∈ ([0x06, 0x0E, 0x16, 0x1E, 0x26, 0x2E, 0x36, 0x3E, 0x18, 0x20, 0x28, 0x30, 0x38, 0xC6, 0xCE, 0xD6,
        0xDE, 0xE6, 0xEE, 0xF6, 0xFE, 0xE0, 0xF0, 0xE8, 0xF8, 0xCB] : List Byte) then 2
     else 1)

/-- R117: exactly eleven first bytes have no behaviour, whatever follows them, and executing one raises
`UndefinedOpcode(pc, op)`. -/
def Obligations.ElevenUndefinedBytes : Prop := ∀ op b1 b2 : Byte,
  ((decodeOp op b1 b2).isIllegal = true ↔
    op ∈ ([0xD3, 0xDB, 0xDD, 0xE3, 0xE4, 0xEB, 0xEC, 0xED, 0xF4, 0xFC, 0xFD] : List Byte)) ∧
  ((decodeOp op b1 b2).isIllegal = true → ∀ s : State,
    ∃ t, exec (decodeOp op b1 b2) s = .next t ∧ t.runState = .faulted ⟨.undefinedOpcode, s.pc, op⟩)

/-- Words written out from the encodings of one instruction of each family decode to it. -/
def Obligations.WrittenWordsDecode : Prop :=
  decode [0b01000001] = .ok (.ld_B_C, []) ∧
  decode [0x3E, 0x05] = .ok (.ld_A_n 0x05, []) ∧
  decode [0x21, 0x10, 0xC0] = .ok (.ld_HL_nn 0xC010, []) ∧
  decode [0xFE, 0x90] = .ok (.cp_n 0x90, []) ∧
  decode [0b00111100] = .ok (.inc_A, []) ∧
  decode [0xE8, 0xFE] = .ok (.add_SP_e 0xFE, []) ∧
  decode [0xCB, 0b01111100] = .ok (.bit_7_H, []) ∧
  decode [0xCB, 0b00110111] = .ok (.swap_A, []) ∧
  decode [0xC3, 0x00, 0x01] = .ok (.jp_nn 0x0100, []) ∧
  decode [0x76] = .ok (.halt, []) ∧
  decode [0xD3] = .ok (.illegal_D3, [])

/-! ## The step and the exceptions (spec/60_exceptions.md) -/

/-- R280, with decision D21 (the spec's own choice): a row without behaviour raises `UndefinedOpcode`: the record names
the address and the byte, `run_state` becomes FAULTED, no cycles are reported, and nothing else changes. -/
def Obligations.UndefinedRowsRaise : Prop := ∀ row ∈ illegalRows, ∀ s : State, encode row.1 = [row.2] ∧
  exec row.1 s = .next { s with runState := .faulted ⟨.undefinedOpcode, s.pc, row.2⟩, cycles := 0 }

/-- R283: every instruction completes, and none but the undefined bytes raises an exception; with R281, the second
error kind is never raised. -/
def Obligations.OnlyUndefinedBytesFault : Prop := ∀ (i : Instr) (s : State), s.runState = .running →
  ∃ t, exec i s = .next t ∧
    ((∃ r, t.runState = .faulted r) ↔ i.isIllegal = true) ∧
    (∀ r, t.runState = .faulted r → r.kind ≠ .undefinedExtendedOpcode)

/-- R270: when the step executes and the bytes at PC decode to `i`, the step is `exec i` at the state the environment
and the wake leave, followed by the completion of the enable latch and the timer's advance by the cycles reported; or,
after a decode error, the state the step began with and the record. The shape of the latch's completion, the place of
the advance and the state after a decode error are the spec's decisions D14, D40 and D21; that the environment's moves
are a schedule and that the bytes are read before the meaning runs are log entries 4 and 9 (DEDUCED). -/
def Obligations.StepRunsDecodedInstruction : Prop := ∀ (s d : State) (i : Instr),
  s.runState = .running → Executes s.environment → AtPc s.environment i →
  exec i s.environment.wake = .next d →
  step s = .next (match d.runState with
    | .faulted r => { s.environment with runState := .faulted r, cycles := 0 }
    | _ => (d.completeLatch s.environment.eiPending).timerAdvance d.cycles)

/-- R272, with decisions D21 and D22 (the spec's own choices): FAULTED and STOPPED have no step; in RUNNING every
state has one. R271, with decision D17 and log entry 3 (DESIGN CHOICE: what values CYCLES may have): it reports a
positive number of M-cycles, or 0 when it faults. -/
def Obligations.StuckOnlyWhenFaultedOrStopped : Prop := ∀ s : State,
  (∀ r, s.runState = .faulted r → step s = .fault .steppedWhileFaulted) ∧
  (s.runState = .stopped → step s = .fault .steppedWhileStopped) ∧
  (s.runState = .running → ∃ t, step s = .next t ∧
    ((∃ r, t.runState = .faulted r) ∧ t.cycles = 0 ∨ (∀ r, t.runState ≠ .faulted r) ∧ 0 < t.cycles))

/-- R277, with decision D21 (the spec's own choice): a step that faults leaves everything but `run_state`, its record
and the reported 0 cycles as the step found it, and the record names PC and the undefined byte there. (The step finds
the state once the environment's moves before it are made, log entry 4.) -/
def Obligations.FaultingStepChangesNothing : Prop := ∀ (s t : State) (r : FaultRecord),
  step s = .next t → t.runState = .faulted r →
  t = { s.environment with runState := .faulted r, cycles := 0 } ∧
  r = ⟨.undefinedOpcode, t.pc, t.memRead t.pc⟩ ∧ t.memRead t.pc ∈ illegalRows.map (fun row => row.2)

/-- R291 and R292, with decisions D15, D19 and D25 (the spec's own choices): with IME set and requests pending once the
environment has moved (log entry 4, DEDUCED), the step dispatches the lowest-numbered one: PC is pushed, high byte
first, IME and the latch are cleared, the one IF bit is cleared after the push, PC goes to `0x0040 + 8 * k`, 5 cycles
are reported and the timer advances by them, and nothing else changes. -/
def Obligations.DispatchTakesLowestSource : Prop := ∀ (s : State) (k : Nat),
  let u := s.environment
  Memory.wf s.mem → s.runState = .running → u.ime = true → k < 5 → u.pending.getLsbD k = true →
  (∀ j, j < k → u.pending.getLsbD j = false) →
  ∃ d, step s = .next (d.timerAdvance 5) ∧
    d.pc = BitVec.ofNat 16 (0x0040 + 8 * k) ∧ d.sp = u.sp - 2 ∧
    (∀ a, d.memRead a =
      (let pushed := busAfter u.cfg (busAfter u.cfg u.memRead (u.sp - 1) (high u.pc)) (u.sp - 2) (low u.pc)
       if a = 0xFF0F then pushed a &&& ~~~((1 : Byte) <<< k) else pushed a)) ∧
    d.divCounter = divAfter u.cfg (divAfter u.cfg u.divCounter (u.sp - 1)) (u.sp - 2) ∧
    d.ime = false ∧ d.eiPending = false ∧ d.halted = false ∧ d.cycles = 5 ∧
    RegsKept [] u d ∧ d.f = u.f ∧ d.haltBug = u.haltBug ∧ d.timaCounter = u.timaCounter ∧
    d.runState = u.runState ∧ d.cfg = u.cfg ∧ d.env = u.env

/-- R290 and R293, with decisions D17 and D18 (the spec's own choices): while nothing is pending, once the environment
has moved (log entry 4, DEDUCED), a step of a halted core changes nothing, reports 1 cycle, and the timer advances by
it; a pending enabled request wakes the CPU whatever IME is, and with IME 0 the step is that of a CPU that is not
halted. (A step that faults undoes the wake, R277.) -/
def Obligations.HaltedStepIdlesOrWakes : Prop := ∀ s : State, s.runState = .running →
  (s.halted = true → s.environment.pending = 0 →
    step s = .next (State.timerAdvance { s.environment with cycles := 1 } 1)) ∧
  (∀ i : Instr, s.ime = false → s.environment.pending ≠ 0 → AtPc s.environment i → i.isIllegal = false →
    step s = step { s with halted := false })

/-- R294, with decision D14 (the spec's own choice), at the state the environment leaves (log entry 4, DEDUCED): the
step after EI completes the latch, unless its instruction
cleared it; a step that began with the latch clear leaves IME and the latch as its instruction left them. -/
def Obligations.EnableTakesEffectAfterNextInstruction : Prop := ∀ (s d t : State) (i : Instr),
  s.runState = .running → Executes s.environment → AtPc s.environment i →
  exec i s.environment.wake = .next d → i.isIllegal = false → step s = .next t →
  (s.environment.eiPending = true → d.eiPending = true → t.ime = true ∧ t.eiPending = false) ∧
  (s.environment.eiPending = false ∨ d.eiPending = false → t.ime = d.ime ∧ t.eiPending = d.eiPending)

/-- R275, with the latch of decision D19 (the spec's own choice, R41), at the states the environment leaves (log entry
4, DEDUCED): HALT with IME 0 and a request pending arms the halt bug, and the step after it that executes an
instruction fetches its opcode without advancing PC. So an instruction that transfers no control leaves PC one less
than its length further on, and one of a single byte leaves PC at its own address: the next step executes it again. -/
def Obligations.HaltBugRepeatsNextByte : Prop := ∀ (s t u : State) (i : Instr),
  s.runState = .running → s.ime = false → s.haltBug = false → s.environment.pending ≠ 0 →
  AtPc s.environment .halt → step s = .next t →
  Executes t.environment → AtPc t.environment i → ¬ TransfersControl i → i.isIllegal = false → step t = .next u →
  t.pc = s.pc + 1 ∧ t.haltBug = true ∧ t.halted = false ∧
  u.pc = t.pc + BitVec.ofNat 16 ((encode i).length - 1) ∧ ((encode i).length = 1 → u.pc = t.pc) ∧
  (i ≠ .halt → u.haltBug = false)

/-! ## Timer (spec/60_exceptions.md, section 4) -/

/-- R301: the DIV part of an advance is the rule's loop; it does not depend on TAC and raises no request by itself. -/
def Obligations.DivAdvanceIsTheLoop : Prop := ∀ (s : State) (n fuel : Nat), s.divCounter + n ≤ fuel →
  (s.timerAdvance n).divCounter = (divLoop fuel (s.divCounter + n) s.div).1 ∧
  (s.timerAdvance n).div = (divLoop fuel (s.divCounter + n) s.div).2 ∧
  s.advanceDiv n = { s with
    divCounter := (divLoop fuel (s.divCounter + n) s.div).1, div := (divLoop fuel (s.divCounter + n) s.div).2 }

/-- R302, with the position of the enable bit of decision D5 (the spec's own choice): the TIMA part of an advance is
the rule's loop while the timer is enabled, and nothing while it is not; no other state changes. -/
def Obligations.TimaAdvanceIsTheLoop : Prop := ∀ (s : State) (n fuel : Nat), s.timaCounter + n ≤ fuel →
  s.advanceTima n =
    (if s.tac.getLsbD 2 = true then
      { s with
        timaCounter := (timaLoop (period s.tac) s.tma fuel (s.timaCounter + n) s.tima s.iflag).1
        tima := (timaLoop (period s.tac) s.tma fuel (s.timaCounter + n) s.tima s.iflag).2.1
        iflag := (timaLoop (period s.tac) s.tma fuel (s.timaCounter + n) s.tima s.iflag).2.2 }
     else s)

/-- R303: no cycle is lost or counted twice: over any sequence of advances DIV rises by the full periods of 64 in the
total; after each advance the accumulators are below their periods. -/
def Obligations.TimerLosesNoCycles : Prop := ∀ (s : State) (ns : List Nat),
  let t := ns.foldl (fun u n => u.timerAdvance n) s
  (s.divCounter < 64 →
    t.div = s.div + BitVec.ofNat 8 ((s.divCounter + ns.sum) / 64) ∧ t.divCounter = (s.divCounter + ns.sum) % 64) ∧
  (∀ n, (t.timerAdvance n).divCounter < 64 ∧
    (t.tac.getLsbD 2 = true → (t.timerAdvance n).timaCounter < period t.tac))

/-! ## Memory and the bus (spec/20_memory.md) -/

/-- R63: an echo address is the same byte as the address 0x2000 lower, for reads and for writes. -/
def Obligations.EchoMirrorsWorkRam : Prop := ∀ (s : State) (a : Word) (v : Byte),
  0xE000 ≤ a.toNat → a.toNat ≤ 0xFDFF →
  s.memRead a = s.memRead (a - 0x2000) ∧ s.rawWrite a v = s.rawWrite (a - 0x2000) v ∧
  s.memWrite a v = s.memWrite (a - 0x2000) v

/-- R64: every address names exactly one byte, and two addresses name the same byte only as the echo says: writing one
by the back door changes the byte of that name and no other. -/
def Obligations.NoAliasingButTheEcho : Prop := ∀ (s : State) (a b : Word) (v : Byte), Memory.wf s.mem →
  (s.rawWrite a v).memRead b = (if underEcho b = underEcho a then v else s.memRead b)

/-- R62, whose two guards are decisions D9 and D23 (the spec's own choices), for either value of `ROM_WRITABLE` and
`DIV_WRITE_RESETS`: a store stores exactly one byte, on the conditions of the write path; nothing but that byte, and
DIV's accumulator for a resetting store to DIV, changes. That memory stays in canonical form is the model's
representation (log entry 13, DESIGN CHOICE). -/
def Obligations.StoreFollowsTheWritePath : Prop := ∀ (s : State) (a : Word) (v : Byte), Memory.wf s.mem →
  StoresByte s (s.memWrite a v) a v ∧ Memory.wf (s.memWrite a v).mem ∧
  RegsKept [] s (s.memWrite a v) ∧ (s.memWrite a v).f = s.f ∧ (s.memWrite a v).sp = s.sp ∧
  (s.memWrite a v).pc = s.pc ∧ (s.memWrite a v).timaCounter = s.timaCounter ∧
  (s.memWrite a v).ime = s.ime ∧ (s.memWrite a v).eiPending = s.eiPending ∧ (s.memWrite a v).halted = s.halted ∧
  (s.memWrite a v).haltBug = s.haltBug ∧ (s.memWrite a v).runState = s.runState ∧
  (s.memWrite a v).cycles = s.cycles ∧ (s.memWrite a v).cfg = s.cfg ∧ (s.memWrite a v).env = s.env

/-- R30, at the addresses of decision D4, and R305 with decision D24 (the spec's own choices): the six control
registers are bytes of the bus at their addresses, read and stored there as plain bytes of 8 bits; a store to DIV is
plain through the back door, and through the write path only where `DIV_WRITE_RESETS` is not set. That they are fields
apart is the model's representation (log entry 13, DESIGN CHOICE). -/
def Obligations.RegistersStandOnTheBus : Prop := ∀ (s : State) (v : Byte),
  s.memRead 0xFF04 = s.div ∧ s.memRead 0xFF05 = s.tima ∧ s.memRead 0xFF06 = s.tma ∧ s.memRead 0xFF07 = s.tac ∧
  s.memRead 0xFF0F = s.iflag ∧ s.memRead 0xFFFF = s.ie ∧
  s.memWrite 0xFF05 v = { s with tima := v } ∧ s.memWrite 0xFF06 v = { s with tma := v } ∧
  s.memWrite 0xFF07 v = { s with tac := v } ∧ s.memWrite 0xFF0F v = { s with iflag := v } ∧
  s.memWrite 0xFFFF v = { s with ie := v } ∧ s.rawWrite 0xFF04 v = { s with div := v } ∧
  s.memWrite 0xFF04 v =
    (if s.cfg.divWriteResets = true then { s with div := 0, divCounter := 0 } else { s with div := v })

/-! ## Reset, host and environment (spec/70_reset_and_hazards.md, spec/20_memory.md section 6) -/

/-- R50 and R330, for every launch and from every state: the registers, with the hidden state of decision D13; the I/O
image where the launch gives it, IE_RESET, the cells of MEM_INIT, the last one for an address deciding (decision D12);
and every other byte is as in `State.reset`, whose contents are log entries 1, 2 and 18 (DESIGN CHOICE and PRESUMED: the
model's, not the spec's). A launch that gives nothing leaves `State.reset` itself. -/
def Obligations.ResetLeavesRegisterValues : Prop :=
  (∀ (s : State) (l : Launch),
    let t := s.hostReset l
    (t.a = 0x01 ∧ t.f = 0xB0 ∧ t.b = 0x00 ∧ t.c = 0x13 ∧ t.d = 0x00 ∧ t.e = 0xD8 ∧ t.h = 0x01 ∧ t.l = 0x4D) ∧
    t.sp = 0xFFFE ∧ t.pc = 0x0100 ∧ t.ime = false ∧ t.eiPending = false ∧ t.halted = false ∧ t.haltBug = false ∧
    t.divCounter = 0 ∧ t.timaCounter = 0 ∧ t.runState = .running ∧ t.cfg = s.cfg ∧ t.env = s.env ∧
    Memory.wf t.mem ∧ t.ie = l.ieReset ∧
    (∀ i, i < 128 → i < l.ioImage.length → t.memRead (BitVec.ofNat 16 (0xFF00 + i)) = l.ioImage.getD i 0) ∧
    (∀ a : Word, a ≠ 0xFFFF → (∀ i, i < 128 → i < l.ioImage.length → a ≠ BitVec.ofNat 16 (0xFF00 + i)) →
      t.memRead a = (lastGiven l.memInit a).getD (State.reset.memRead a))) ∧
  State.hostReset .reset .default = .reset

/-- R65: loading puts byte `i` of the image at address `i`, for the 32768 bytes of the window, and leaves every other
byte as it was. -/
def Obligations.LoadedImageIsReadBack : Prop := ∀ (s : State) (image : List Byte) (a : Word), Memory.wf s.mem →
  (s.loadRom image).memRead a =
    (if a.toNat < 0x8000 ∧ a.toNat < image.length then image.getD a.toNat 0 else s.memRead a)

/-- R92, with decision D29 (the spec's own choice) and the model's readings of it in log entries 4 and 19 (DEDUCED).
A request raised sets bits of IF under the mask 0x1B; a peripheral change replaces one byte of the I/O block other than
DIV, TIMA, TMA and TAC. The moves before a step are the head of the schedule, in order: they change IF and peripheral
bytes, and leave registers, PC, SP, the latches, the timer and every other byte as they were. A debugger's patches
keep `run_state` (R272) and bits 3 to 0 of F (R23, decision D39). -/
def Obligations.OutsideMovesAreConfined : Prop := ∀ s : State,
  (∀ m : Byte, s.envMove (.raise m) = { s with iflag := s.iflag ||| (m &&& 0x1B) }) ∧
  (∀ (offset : Nat) (v : Byte), Memory.wf s.mem →
    let t := s.envMove (.setIo offset v)
    Memory.wf t.mem ∧ t = { s with mem := t.mem, iflag := t.iflag } ∧
    ∀ b, t.memRead b =
      (if offset < 0x80 ∧ offset ∉ [0x04, 0x05, 0x06, 0x07] ∧ b = BitVec.ofNat 16 (0xFF00 + offset) then v
       else s.memRead b)) ∧
  (s.env = [] → s.environment = s) ∧
  (∀ moves later, s.env = moves :: later → s.environment = moves.foldl State.envMove { s with env := later }) ∧
  (Memory.wf s.mem →
    let t := s.environment
    Memory.wf t.mem ∧ t = { s with mem := t.mem, iflag := t.iflag, env := s.env.tail } ∧
    ∀ b : Word, b.toNat < 0xFF00 ∨ 0xFF7F < b.toNat ∨ b ∈ ([0xFF04, 0xFF05, 0xFF06, 0xFF07] : List Word) →
      t.memRead b = s.memRead b) ∧
  (∀ ps : List Patch, Memory.wf s.mem → s.f &&& 0x0F = 0 →
    let t := s.hostMove (.inspectAndPatch ps)
    Memory.wf t.mem ∧ t.f &&& 0x0F = 0 ∧ t.runState = s.runState ∧ t.cycles = s.cycles ∧ t.cfg = s.cfg ∧
      t.env = s.env)

/-! ## Whole-machine rules -/

/-- The invariant of the reachable states is kept by every step, from every state that has it, and the parameters of
the machine never change; the environment's schedule moves on by one (log entry 4, DEDUCED). Of the invariant, that
memory is in canonical form is log entry 13 (DESIGN CHOICE), and that bits 3 to 0 of F are 0 as a property of reachable
states is R23 with log entry 12 (DEDUCED). -/
def Obligations.StepKeepsInvariant : Prop := ∀ s t : State,
  s.Inv → step s = .next t → t.Inv ∧ t.cfg = s.cfg ∧ t.env = s.env.tail

/-- The reset state has the invariant. -/
def Obligations.ResetHasInvariant : Prop := State.Inv .reset

/-- R26: an instruction outside the table of the flag writers leaves F as it was. -/
def Obligations.OtherInstructionsKeepFlags : Prop := ∀ (i : Instr) (s t : State),
  ¬ WritesFlags i → exec i s = .next t → t.f = s.f

/-- R38, at the state the environment leaves (log entry 4, DEDUCED): IME rises in a step only by the completion of the
enable latch or by RETI, and falls only by a dispatch or by DI. -/
def Obligations.ImeWriters : Prop := ∀ s t : State, step s = .next t →
  (s.ime = false → t.ime = true → s.eiPending = true ∨ AtPc s.environment .reti) ∧
  (s.ime = true → t.ime = false → s.environment.pending ≠ 0 ∨ AtPc s.environment .di)

/-- R345, in the terms of log entry 14 (DEDUCED). A core halted for good idles for ever: its step costs 1 cycle, changes
nothing but what the timer and the environment change, and leaves it halted for good. A spin repeats: where the step
executes the jump to itself, PC and every register are as they were, and it spins on unless its own bytes are those of
the timer, DIV, TIMA or IF. -/
def Obligations.HaltedForGoodAndSpinLast : Prop := ∀ s : State,
  (s.haltedForGood → ∃ t, step s = .next t ∧ t.haltedForGood ∧ t.cycles = 1 ∧ t.pc = s.pc ∧ t.sp = s.sp ∧
    t.f = s.f ∧ RegsKept [] s t ∧ ∀ a, a ∉ timerBytes → t.memRead a = s.environment.memRead a) ∧
  (s.environment.spinning → Executes s.environment →
    ∃ t, step s = .next t ∧ t.pc = s.pc ∧ t.sp = s.sp ∧ t.f = s.f ∧ RegsKept [] s t ∧ t.halted = false ∧
      t.haltBug = false ∧ t.runState = .running ∧
      (∀ a, a ∉ timerBytes → t.memRead a = s.environment.memRead a) ∧
      ((∀ j, j < 3 → s.pc + BitVec.ofNat 16 j ∉ timerBytes) → t.spinning))
end

