-- ==== Sys2Proof/Laws/State.lean ====
section
/-!
SUPPORT. One lemma for each field of the state and each named update of it: what the field is afterwards. Later
proofs rewrite with these and unfold no update. Registers are read back through `State.reg8`, `State.reg16` and
`State.stackReg`; the bus is read back in Laws/Memory.lean.
-/
namespace Sys2Proof.Machine

/-! #### `State.fetched` -/

@[simp] theorem State.fetched_a (s : State) (n : Nat) : (s.fetched n).a = s.a := rfl
@[simp] theorem State.fetched_f (s : State) (n : Nat) : (s.fetched n).f = s.f := rfl
@[simp] theorem State.fetched_b (s : State) (n : Nat) : (s.fetched n).b = s.b := rfl
@[simp] theorem State.fetched_c (s : State) (n : Nat) : (s.fetched n).c = s.c := rfl
@[simp] theorem State.fetched_d (s : State) (n : Nat) : (s.fetched n).d = s.d := rfl
@[simp] theorem State.fetched_e (s : State) (n : Nat) : (s.fetched n).e = s.e := rfl
@[simp] theorem State.fetched_h (s : State) (n : Nat) : (s.fetched n).h = s.h := rfl
@[simp] theorem State.fetched_l (s : State) (n : Nat) : (s.fetched n).l = s.l := rfl
@[simp] theorem State.fetched_sp (s : State) (n : Nat) : (s.fetched n).sp = s.sp := rfl
@[simp] theorem State.fetched_pc (s : State) (n : Nat) : (s.fetched n).pc = s.pcAfter n := rfl
@[simp] theorem State.fetched_ime (s : State) (n : Nat) : (s.fetched n).ime = s.ime := rfl
@[simp] theorem State.fetched_eiPending (s : State) (n : Nat) : (s.fetched n).eiPending = s.eiPending := rfl
@[simp] theorem State.fetched_halted (s : State) (n : Nat) : (s.fetched n).halted = s.halted := rfl
@[simp] theorem State.fetched_haltBug (s : State) (n : Nat) : (s.fetched n).haltBug = false := rfl
@[simp] theorem State.fetched_divCounter (s : State) (n : Nat) : (s.fetched n).divCounter = s.divCounter := rfl
@[simp] theorem State.fetched_timaCounter (s : State) (n : Nat) : (s.fetched n).timaCounter = s.timaCounter := rfl
@[simp] theorem State.fetched_div (s : State) (n : Nat) : (s.fetched n).div = s.div := rfl
@[simp] theorem State.fetched_tima (s : State) (n : Nat) : (s.fetched n).tima = s.tima := rfl
@[simp] theorem State.fetched_tma (s : State) (n : Nat) : (s.fetched n).tma = s.tma := rfl
@[simp] theorem State.fetched_tac (s : State) (n : Nat) : (s.fetched n).tac = s.tac := rfl
@[simp] theorem State.fetched_iflag (s : State) (n : Nat) : (s.fetched n).iflag = s.iflag := rfl
@[simp] theorem State.fetched_ie (s : State) (n : Nat) : (s.fetched n).ie = s.ie := rfl
@[simp] theorem State.fetched_mem (s : State) (n : Nat) : (s.fetched n).mem = s.mem := rfl
@[simp] theorem State.fetched_runState (s : State) (n : Nat) : (s.fetched n).runState = s.runState := rfl
@[simp] theorem State.fetched_cycles (s : State) (n : Nat) : (s.fetched n).cycles = s.cycles := rfl
@[simp] theorem State.fetched_cfg (s : State) (n : Nat) : (s.fetched n).cfg = s.cfg := rfl
@[simp] theorem State.fetched_env (s : State) (n : Nat) : (s.fetched n).env = s.env := rfl

/-! #### `State.spend` -/

@[simp] theorem State.spend_a (s : State) (op table : Nat) (taken : Bool) : (s.spend op table taken).a = s.a := rfl
@[simp] theorem State.spend_f (s : State) (op table : Nat) (taken : Bool) : (s.spend op table taken).f = s.f := rfl
@[simp] theorem State.spend_b (s : State) (op table : Nat) (taken : Bool) : (s.spend op table taken).b = s.b := rfl
@[simp] theorem State.spend_c (s : State) (op table : Nat) (taken : Bool) : (s.spend op table taken).c = s.c := rfl
@[simp] theorem State.spend_d (s : State) (op table : Nat) (taken : Bool) : (s.spend op table taken).d = s.d := rfl
@[simp] theorem State.spend_e (s : State) (op table : Nat) (taken : Bool) : (s.spend op table taken).e = s.e := rfl
@[simp] theorem State.spend_h (s : State) (op table : Nat) (taken : Bool) : (s.spend op table taken).h = s.h := rfl
@[simp] theorem State.spend_l (s : State) (op table : Nat) (taken : Bool) : (s.spend op table taken).l = s.l := rfl
@[simp] theorem State.spend_sp (s : State) (op table : Nat) (taken : Bool) : (s.spend op table taken).sp = s.sp := rfl
@[simp] theorem State.spend_pc (s : State) (op table : Nat) (taken : Bool) : (s.spend op table taken).pc = s.pc := rfl
@[simp] theorem State.spend_ime (s : State) (op table : Nat) (taken : Bool) : (s.spend op table taken).ime = s.ime := rfl
@[simp] theorem State.spend_eiPending (s : State) (op table : Nat) (taken : Bool) : (s.spend op table taken).eiPending = s.eiPending := rfl
@[simp] theorem State.spend_halted (s : State) (op table : Nat) (taken : Bool) : (s.spend op table taken).halted = s.halted := rfl
@[simp] theorem State.spend_haltBug (s : State) (op table : Nat) (taken : Bool) : (s.spend op table taken).haltBug = s.haltBug := rfl
@[simp] theorem State.spend_divCounter (s : State) (op table : Nat) (taken : Bool) : (s.spend op table taken).divCounter = s.divCounter := rfl
@[simp] theorem State.spend_timaCounter (s : State) (op table : Nat) (taken : Bool) : (s.spend op table taken).timaCounter = s.timaCounter := rfl
@[simp] theorem State.spend_div (s : State) (op table : Nat) (taken : Bool) : (s.spend op table taken).div = s.div := rfl
@[simp] theorem State.spend_tima (s : State) (op table : Nat) (taken : Bool) : (s.spend op table taken).tima = s.tima := rfl
@[simp] theorem State.spend_tma (s : State) (op table : Nat) (taken : Bool) : (s.spend op table taken).tma = s.tma := rfl
@[simp] theorem State.spend_tac (s : State) (op table : Nat) (taken : Bool) : (s.spend op table taken).tac = s.tac := rfl
@[simp] theorem State.spend_iflag (s : State) (op table : Nat) (taken : Bool) : (s.spend op table taken).iflag = s.iflag := rfl
@[simp] theorem State.spend_ie (s : State) (op table : Nat) (taken : Bool) : (s.spend op table taken).ie = s.ie := rfl
@[simp] theorem State.spend_mem (s : State) (op table : Nat) (taken : Bool) : (s.spend op table taken).mem = s.mem := rfl
@[simp] theorem State.spend_runState (s : State) (op table : Nat) (taken : Bool) : (s.spend op table taken).runState = s.runState := rfl
@[simp] theorem State.spend_cycles (s : State) (op table : Nat) (taken : Bool) : (s.spend op table taken).cycles = s.cyclesOf op taken table := rfl
@[simp] theorem State.spend_cfg (s : State) (op table : Nat) (taken : Bool) : (s.spend op table taken).cfg = s.cfg := rfl
@[simp] theorem State.spend_env (s : State) (op table : Nat) (taken : Bool) : (s.spend op table taken).env = s.env := rfl

/-! #### `State.setFlags` -/

@[simp] theorem State.setFlags_a (s : State) (fl : Flags) : (s.setFlags fl).a = s.a := rfl
@[simp] theorem State.setFlags_f (s : State) (fl : Flags) : (s.setFlags fl).f = fl.toByte ||| (s.f &&& 0x0F) := rfl
@[simp] theorem State.setFlags_b (s : State) (fl : Flags) : (s.setFlags fl).b = s.b := rfl
@[simp] theorem State.setFlags_c (s : State) (fl : Flags) : (s.setFlags fl).c = s.c := rfl
@[simp] theorem State.setFlags_d (s : State) (fl : Flags) : (s.setFlags fl).d = s.d := rfl
@[simp] theorem State.setFlags_e (s : State) (fl : Flags) : (s.setFlags fl).e = s.e := rfl
@[simp] theorem State.setFlags_h (s : State) (fl : Flags) : (s.setFlags fl).h = s.h := rfl
@[simp] theorem State.setFlags_l (s : State) (fl : Flags) : (s.setFlags fl).l = s.l := rfl
@[simp] theorem State.setFlags_sp (s : State) (fl : Flags) : (s.setFlags fl).sp = s.sp := rfl
@[simp] theorem State.setFlags_pc (s : State) (fl : Flags) : (s.setFlags fl).pc = s.pc := rfl
@[simp] theorem State.setFlags_ime (s : State) (fl : Flags) : (s.setFlags fl).ime = s.ime := rfl
@[simp] theorem State.setFlags_eiPending (s : State) (fl : Flags) : (s.setFlags fl).eiPending = s.eiPending := rfl
@[simp] theorem State.setFlags_halted (s : State) (fl : Flags) : (s.setFlags fl).halted = s.halted := rfl
@[simp] theorem State.setFlags_haltBug (s : State) (fl : Flags) : (s.setFlags fl).haltBug = s.haltBug := rfl
@[simp] theorem State.setFlags_divCounter (s : State) (fl : Flags) : (s.setFlags fl).divCounter = s.divCounter := rfl
@[simp] theorem State.setFlags_timaCounter (s : State) (fl : Flags) : (s.setFlags fl).timaCounter = s.timaCounter := rfl
@[simp] theorem State.setFlags_div (s : State) (fl : Flags) : (s.setFlags fl).div = s.div := rfl
@[simp] theorem State.setFlags_tima (s : State) (fl : Flags) : (s.setFlags fl).tima = s.tima := rfl
@[simp] theorem State.setFlags_tma (s : State) (fl : Flags) : (s.setFlags fl).tma = s.tma := rfl
@[simp] theorem State.setFlags_tac (s : State) (fl : Flags) : (s.setFlags fl).tac = s.tac := rfl
@[simp] theorem State.setFlags_iflag (s : State) (fl : Flags) : (s.setFlags fl).iflag = s.iflag := rfl
@[simp] theorem State.setFlags_ie (s : State) (fl : Flags) : (s.setFlags fl).ie = s.ie := rfl
@[simp] theorem State.setFlags_mem (s : State) (fl : Flags) : (s.setFlags fl).mem = s.mem := rfl
@[simp] theorem State.setFlags_runState (s : State) (fl : Flags) : (s.setFlags fl).runState = s.runState := rfl
@[simp] theorem State.setFlags_cycles (s : State) (fl : Flags) : (s.setFlags fl).cycles = s.cycles := rfl
@[simp] theorem State.setFlags_cfg (s : State) (fl : Flags) : (s.setFlags fl).cfg = s.cfg := rfl
@[simp] theorem State.setFlags_env (s : State) (fl : Flags) : (s.setFlags fl).env = s.env := rfl

/-! #### `State.setReg8` -/

@[simp] theorem State.setReg8_f (s : State) (r : Reg8) (v : Byte) : (s.setReg8 r v).f = s.f := by cases r <;> rfl
@[simp] theorem State.setReg8_sp (s : State) (r : Reg8) (v : Byte) : (s.setReg8 r v).sp = s.sp := by cases r <;> rfl
@[simp] theorem State.setReg8_pc (s : State) (r : Reg8) (v : Byte) : (s.setReg8 r v).pc = s.pc := by cases r <;> rfl
@[simp] theorem State.setReg8_ime (s : State) (r : Reg8) (v : Byte) : (s.setReg8 r v).ime = s.ime := by cases r <;> rfl
@[simp] theorem State.setReg8_eiPending (s : State) (r : Reg8) (v : Byte) : (s.setReg8 r v).eiPending = s.eiPending := by cases r <;> rfl
@[simp] theorem State.setReg8_halted (s : State) (r : Reg8) (v : Byte) : (s.setReg8 r v).halted = s.halted := by cases r <;> rfl
@[simp] theorem State.setReg8_haltBug (s : State) (r : Reg8) (v : Byte) : (s.setReg8 r v).haltBug = s.haltBug := by cases r <;> rfl
@[simp] theorem State.setReg8_divCounter (s : State) (r : Reg8) (v : Byte) : (s.setReg8 r v).divCounter = s.divCounter := by cases r <;> rfl
@[simp] theorem State.setReg8_timaCounter (s : State) (r : Reg8) (v : Byte) : (s.setReg8 r v).timaCounter = s.timaCounter := by cases r <;> rfl
@[simp] theorem State.setReg8_div (s : State) (r : Reg8) (v : Byte) : (s.setReg8 r v).div = s.div := by cases r <;> rfl
@[simp] theorem State.setReg8_tima (s : State) (r : Reg8) (v : Byte) : (s.setReg8 r v).tima = s.tima := by cases r <;> rfl
@[simp] theorem State.setReg8_tma (s : State) (r : Reg8) (v : Byte) : (s.setReg8 r v).tma = s.tma := by cases r <;> rfl
@[simp] theorem State.setReg8_tac (s : State) (r : Reg8) (v : Byte) : (s.setReg8 r v).tac = s.tac := by cases r <;> rfl
@[simp] theorem State.setReg8_iflag (s : State) (r : Reg8) (v : Byte) : (s.setReg8 r v).iflag = s.iflag := by cases r <;> rfl
@[simp] theorem State.setReg8_ie (s : State) (r : Reg8) (v : Byte) : (s.setReg8 r v).ie = s.ie := by cases r <;> rfl
@[simp] theorem State.setReg8_mem (s : State) (r : Reg8) (v : Byte) : (s.setReg8 r v).mem = s.mem := by cases r <;> rfl
@[simp] theorem State.setReg8_runState (s : State) (r : Reg8) (v : Byte) : (s.setReg8 r v).runState = s.runState := by cases r <;> rfl
@[simp] theorem State.setReg8_cycles (s : State) (r : Reg8) (v : Byte) : (s.setReg8 r v).cycles = s.cycles := by cases r <;> rfl
@[simp] theorem State.setReg8_cfg (s : State) (r : Reg8) (v : Byte) : (s.setReg8 r v).cfg = s.cfg := by cases r <;> rfl
@[simp] theorem State.setReg8_env (s : State) (r : Reg8) (v : Byte) : (s.setReg8 r v).env = s.env := by cases r <;> rfl

/-! #### `State.setHl` -/

@[simp] theorem State.setHl_a (s : State) (v : Word) : (s.setHl v).a = s.a := rfl
@[simp] theorem State.setHl_f (s : State) (v : Word) : (s.setHl v).f = s.f := rfl
@[simp] theorem State.setHl_b (s : State) (v : Word) : (s.setHl v).b = s.b := rfl
@[simp] theorem State.setHl_c (s : State) (v : Word) : (s.setHl v).c = s.c := rfl
@[simp] theorem State.setHl_d (s : State) (v : Word) : (s.setHl v).d = s.d := rfl
@[simp] theorem State.setHl_e (s : State) (v : Word) : (s.setHl v).e = s.e := rfl
@[simp] theorem State.setHl_h (s : State) (v : Word) : (s.setHl v).h = hiByte v := rfl
@[simp] theorem State.setHl_l (s : State) (v : Word) : (s.setHl v).l = loByte v := rfl
@[simp] theorem State.setHl_sp (s : State) (v : Word) : (s.setHl v).sp = s.sp := rfl
@[simp] theorem State.setHl_pc (s : State) (v : Word) : (s.setHl v).pc = s.pc := rfl
@[simp] theorem State.setHl_ime (s : State) (v : Word) : (s.setHl v).ime = s.ime := rfl
@[simp] theorem State.setHl_eiPending (s : State) (v : Word) : (s.setHl v).eiPending = s.eiPending := rfl
@[simp] theorem State.setHl_halted (s : State) (v : Word) : (s.setHl v).halted = s.halted := rfl
@[simp] theorem State.setHl_haltBug (s : State) (v : Word) : (s.setHl v).haltBug = s.haltBug := rfl
@[simp] theorem State.setHl_divCounter (s : State) (v : Word) : (s.setHl v).divCounter = s.divCounter := rfl
@[simp] theorem State.setHl_timaCounter (s : State) (v : Word) : (s.setHl v).timaCounter = s.timaCounter := rfl
@[simp] theorem State.setHl_div (s : State) (v : Word) : (s.setHl v).div = s.div := rfl
@[simp] theorem State.setHl_tima (s : State) (v : Word) : (s.setHl v).tima = s.tima := rfl
@[simp] theorem State.setHl_tma (s : State) (v : Word) : (s.setHl v).tma = s.tma := rfl
@[simp] theorem State.setHl_tac (s : State) (v : Word) : (s.setHl v).tac = s.tac := rfl
@[simp] theorem State.setHl_iflag (s : State) (v : Word) : (s.setHl v).iflag = s.iflag := rfl
@[simp] theorem State.setHl_ie (s : State) (v : Word) : (s.setHl v).ie = s.ie := rfl
@[simp] theorem State.setHl_mem (s : State) (v : Word) : (s.setHl v).mem = s.mem := rfl
@[simp] theorem State.setHl_runState (s : State) (v : Word) : (s.setHl v).runState = s.runState := rfl
@[simp] theorem State.setHl_cycles (s : State) (v : Word) : (s.setHl v).cycles = s.cycles := rfl
@[simp] theorem State.setHl_cfg (s : State) (v : Word) : (s.setHl v).cfg = s.cfg := rfl
@[simp] theorem State.setHl_env (s : State) (v : Word) : (s.setHl v).env = s.env := rfl

/-! #### `State.setReg16` -/

@[simp] theorem State.setReg16_a (s : State) (p : Reg16) (v : Word) : (s.setReg16 p v).a = s.a := by cases p <;> rfl
@[simp] theorem State.setReg16_f (s : State) (p : Reg16) (v : Word) : (s.setReg16 p v).f = s.f := by cases p <;> rfl
@[simp] theorem State.setReg16_pc (s : State) (p : Reg16) (v : Word) : (s.setReg16 p v).pc = s.pc := by cases p <;> rfl
@[simp] theorem State.setReg16_ime (s : State) (p : Reg16) (v : Word) : (s.setReg16 p v).ime = s.ime := by cases p <;> rfl
@[simp] theorem State.setReg16_eiPending (s : State) (p : Reg16) (v : Word) : (s.setReg16 p v).eiPending = s.eiPending := by cases p <;> rfl
@[simp] theorem State.setReg16_halted (s : State) (p : Reg16) (v : Word) : (s.setReg16 p v).halted = s.halted := by cases p <;> rfl
@[simp] theorem State.setReg16_haltBug (s : State) (p : Reg16) (v : Word) : (s.setReg16 p v).haltBug = s.haltBug := by cases p <;> rfl
@[simp] theorem State.setReg16_divCounter (s : State) (p : Reg16) (v : Word) : (s.setReg16 p v).divCounter = s.divCounter := by cases p <;> rfl
@[simp] theorem State.setReg16_timaCounter (s : State) (p : Reg16) (v : Word) : (s.setReg16 p v).timaCounter = s.timaCounter := by cases p <;> rfl
@[simp] theorem State.setReg16_div (s : State) (p : Reg16) (v : Word) : (s.setReg16 p v).div = s.div := by cases p <;> rfl
@[simp] theorem State.setReg16_tima (s : State) (p : Reg16) (v : Word) : (s.setReg16 p v).tima = s.tima := by cases p <;> rfl
@[simp] theorem State.setReg16_tma (s : State) (p : Reg16) (v : Word) : (s.setReg16 p v).tma = s.tma := by cases p <;> rfl
@[simp] theorem State.setReg16_tac (s : State) (p : Reg16) (v : Word) : (s.setReg16 p v).tac = s.tac := by cases p <;> rfl
@[simp] theorem State.setReg16_iflag (s : State) (p : Reg16) (v : Word) : (s.setReg16 p v).iflag = s.iflag := by cases p <;> rfl
@[simp] theorem State.setReg16_ie (s : State) (p : Reg16) (v : Word) : (s.setReg16 p v).ie = s.ie := by cases p <;> rfl
@[simp] theorem State.setReg16_mem (s : State) (p : Reg16) (v : Word) : (s.setReg16 p v).mem = s.mem := by cases p <;> rfl
@[simp] theorem State.setReg16_runState (s : State) (p : Reg16) (v : Word) : (s.setReg16 p v).runState = s.runState := by cases p <;> rfl
@[simp] theorem State.setReg16_cycles (s : State) (p : Reg16) (v : Word) : (s.setReg16 p v).cycles = s.cycles := by cases p <;> rfl
@[simp] theorem State.setReg16_cfg (s : State) (p : Reg16) (v : Word) : (s.setReg16 p v).cfg = s.cfg := by cases p <;> rfl
@[simp] theorem State.setReg16_env (s : State) (p : Reg16) (v : Word) : (s.setReg16 p v).env = s.env := by cases p <;> rfl

/-! #### `State.setStackReg` -/

@[simp] theorem State.setStackReg_sp (s : State) (p : StackReg) (v : Word) : (s.setStackReg p v).sp = s.sp := by cases p <;> rfl
@[simp] theorem State.setStackReg_pc (s : State) (p : StackReg) (v : Word) : (s.setStackReg p v).pc = s.pc := by cases p <;> rfl
@[simp] theorem State.setStackReg_ime (s : State) (p : StackReg) (v : Word) : (s.setStackReg p v).ime = s.ime := by cases p <;> rfl
@[simp] theorem State.setStackReg_eiPending (s : State) (p : StackReg) (v : Word) : (s.setStackReg p v).eiPending = s.eiPending := by cases p <;> rfl
@[simp] theorem State.setStackReg_halted (s : State) (p : StackReg) (v : Word) : (s.setStackReg p v).halted = s.halted := by cases p <;> rfl
@[simp] theorem State.setStackReg_haltBug (s : State) (p : StackReg) (v : Word) : (s.setStackReg p v).haltBug = s.haltBug := by cases p <;> rfl
@[simp] theorem State.setStackReg_divCounter (s : State) (p : StackReg) (v : Word) : (s.setStackReg p v).divCounter = s.divCounter := by cases p <;> rfl
@[simp] theorem State.setStackReg_timaCounter (s : State) (p : StackReg) (v : Word) : (s.setStackReg p v).timaCounter = s.timaCounter := by cases p <;> rfl
@[simp] theorem State.setStackReg_div (s : State) (p : StackReg) (v : Word) : (s.setStackReg p v).div = s.div := by cases p <;> rfl
@[simp] theorem State.setStackReg_tima (s : State) (p : StackReg) (v : Word) : (s.setStackReg p v).tima = s.tima := by cases p <;> rfl
@[simp] theorem State.setStackReg_tma (s : State) (p : StackReg) (v : Word) : (s.setStackReg p v).tma = s.tma := by cases p <;> rfl
@[simp] theorem State.setStackReg_tac (s : State) (p : StackReg) (v : Word) : (s.setStackReg p v).tac = s.tac := by cases p <;> rfl
@[simp] theorem State.setStackReg_iflag (s : State) (p : StackReg) (v : Word) : (s.setStackReg p v).iflag = s.iflag := by cases p <;> rfl
@[simp] theorem State.setStackReg_ie (s : State) (p : StackReg) (v : Word) : (s.setStackReg p v).ie = s.ie := by cases p <;> rfl
@[simp] theorem State.setStackReg_mem (s : State) (p : StackReg) (v : Word) : (s.setStackReg p v).mem = s.mem := by cases p <;> rfl
@[simp] theorem State.setStackReg_runState (s : State) (p : StackReg) (v : Word) : (s.setStackReg p v).runState = s.runState := by cases p <;> rfl
@[simp] theorem State.setStackReg_cycles (s : State) (p : StackReg) (v : Word) : (s.setStackReg p v).cycles = s.cycles := by cases p <;> rfl
@[simp] theorem State.setStackReg_cfg (s : State) (p : StackReg) (v : Word) : (s.setStackReg p v).cfg = s.cfg := by cases p <;> rfl
@[simp] theorem State.setStackReg_env (s : State) (p : StackReg) (v : Word) : (s.setStackReg p v).env = s.env := by cases p <;> rfl

/-! #### `State.dropTwo` -/

@[simp] theorem State.dropTwo_a (s : State) : (s.dropTwo).a = s.a := rfl
@[simp] theorem State.dropTwo_f (s : State) : (s.dropTwo).f = s.f := rfl
@[simp] theorem State.dropTwo_b (s : State) : (s.dropTwo).b = s.b := rfl
@[simp] theorem State.dropTwo_c (s : State) : (s.dropTwo).c = s.c := rfl
@[simp] theorem State.dropTwo_d (s : State) : (s.dropTwo).d = s.d := rfl
@[simp] theorem State.dropTwo_e (s : State) : (s.dropTwo).e = s.e := rfl
@[simp] theorem State.dropTwo_h (s : State) : (s.dropTwo).h = s.h := rfl
@[simp] theorem State.dropTwo_l (s : State) : (s.dropTwo).l = s.l := rfl
@[simp] theorem State.dropTwo_sp (s : State) : (s.dropTwo).sp = s.sp + 2 := rfl
@[simp] theorem State.dropTwo_pc (s : State) : (s.dropTwo).pc = s.pc := rfl
@[simp] theorem State.dropTwo_ime (s : State) : (s.dropTwo).ime = s.ime := rfl
@[simp] theorem State.dropTwo_eiPending (s : State) : (s.dropTwo).eiPending = s.eiPending := rfl
@[simp] theorem State.dropTwo_halted (s : State) : (s.dropTwo).halted = s.halted := rfl
@[simp] theorem State.dropTwo_haltBug (s : State) : (s.dropTwo).haltBug = s.haltBug := rfl
@[simp] theorem State.dropTwo_divCounter (s : State) : (s.dropTwo).divCounter = s.divCounter := rfl
@[simp] theorem State.dropTwo_timaCounter (s : State) : (s.dropTwo).timaCounter = s.timaCounter := rfl
@[simp] theorem State.dropTwo_div (s : State) : (s.dropTwo).div = s.div := rfl
@[simp] theorem State.dropTwo_tima (s : State) : (s.dropTwo).tima = s.tima := rfl
@[simp] theorem State.dropTwo_tma (s : State) : (s.dropTwo).tma = s.tma := rfl
@[simp] theorem State.dropTwo_tac (s : State) : (s.dropTwo).tac = s.tac := rfl
@[simp] theorem State.dropTwo_iflag (s : State) : (s.dropTwo).iflag = s.iflag := rfl
@[simp] theorem State.dropTwo_ie (s : State) : (s.dropTwo).ie = s.ie := rfl
@[simp] theorem State.dropTwo_mem (s : State) : (s.dropTwo).mem = s.mem := rfl
@[simp] theorem State.dropTwo_runState (s : State) : (s.dropTwo).runState = s.runState := rfl
@[simp] theorem State.dropTwo_cycles (s : State) : (s.dropTwo).cycles = s.cycles := rfl
@[simp] theorem State.dropTwo_cfg (s : State) : (s.dropTwo).cfg = s.cfg := rfl
@[simp] theorem State.dropTwo_env (s : State) : (s.dropTwo).env = s.env := rfl

/-! #### `State.rawWrite` -/

@[simp] theorem State.rawWrite_a (s : State) (addr : Word) (v : Byte) : (s.rawWrite addr v).a = s.a := by unfold State.rawWrite; split <;> rfl
@[simp] theorem State.rawWrite_f (s : State) (addr : Word) (v : Byte) : (s.rawWrite addr v).f = s.f := by unfold State.rawWrite; split <;> rfl
@[simp] theorem State.rawWrite_b (s : State) (addr : Word) (v : Byte) : (s.rawWrite addr v).b = s.b := by unfold State.rawWrite; split <;> rfl
@[simp] theorem State.rawWrite_c (s : State) (addr : Word) (v : Byte) : (s.rawWrite addr v).c = s.c := by unfold State.rawWrite; split <;> rfl
@[simp] theorem State.rawWrite_d (s : State) (addr : Word) (v : Byte) : (s.rawWrite addr v).d = s.d := by unfold State.rawWrite; split <;> rfl
@[simp] theorem State.rawWrite_e (s : State) (addr : Word) (v : Byte) : (s.rawWrite addr v).e = s.e := by unfold State.rawWrite; split <;> rfl
@[simp] theorem State.rawWrite_h (s : State) (addr : Word) (v : Byte) : (s.rawWrite addr v).h = s.h := by unfold State.rawWrite; split <;> rfl
@[simp] theorem State.rawWrite_l (s : State) (addr : Word) (v : Byte) : (s.rawWrite addr v).l = s.l := by unfold State.rawWrite; split <;> rfl
@[simp] theorem State.rawWrite_sp (s : State) (addr : Word) (v : Byte) : (s.rawWrite addr v).sp = s.sp := by unfold State.rawWrite; split <;> rfl
@[simp] theorem State.rawWrite_pc (s : State) (addr : Word) (v : Byte) : (s.rawWrite addr v).pc = s.pc := by unfold State.rawWrite; split <;> rfl
@[simp] theorem State.rawWrite_ime (s : State) (addr : Word) (v : Byte) : (s.rawWrite addr v).ime = s.ime := by unfold State.rawWrite; split <;> rfl
@[simp] theorem State.rawWrite_eiPending (s : State) (addr : Word) (v : Byte) : (s.rawWrite addr v).eiPending = s.eiPending := by unfold State.rawWrite; split <;> rfl
@[simp] theorem State.rawWrite_halted (s : State) (addr : Word) (v : Byte) : (s.rawWrite addr v).halted = s.halted := by unfold State.rawWrite; split <;> rfl
@[simp] theorem State.rawWrite_haltBug (s : State) (addr : Word) (v : Byte) : (s.rawWrite addr v).haltBug = s.haltBug := by unfold State.rawWrite; split <;> rfl
@[simp] theorem State.rawWrite_divCounter (s : State) (addr : Word) (v : Byte) : (s.rawWrite addr v).divCounter = s.divCounter := by unfold State.rawWrite; split <;> rfl
@[simp] theorem State.rawWrite_timaCounter (s : State) (addr : Word) (v : Byte) : (s.rawWrite addr v).timaCounter = s.timaCounter := by unfold State.rawWrite; split <;> rfl
@[simp] theorem State.rawWrite_runState (s : State) (addr : Word) (v : Byte) : (s.rawWrite addr v).runState = s.runState := by unfold State.rawWrite; split <;> rfl
@[simp] theorem State.rawWrite_cycles (s : State) (addr : Word) (v : Byte) : (s.rawWrite addr v).cycles = s.cycles := by unfold State.rawWrite; split <;> rfl
@[simp] theorem State.rawWrite_cfg (s : State) (addr : Word) (v : Byte) : (s.rawWrite addr v).cfg = s.cfg := by unfold State.rawWrite; split <;> rfl
@[simp] theorem State.rawWrite_env (s : State) (addr : Word) (v : Byte) : (s.rawWrite addr v).env = s.env := by unfold State.rawWrite; split <;> rfl

/-! #### `State.memWrite` -/

@[simp] theorem State.memWrite_a (s : State) (addr : Word) (v : Byte) : (s.memWrite addr v).a = s.a := by unfold State.memWrite; split; rfl; split; rfl; simp
@[simp] theorem State.memWrite_f (s : State) (addr : Word) (v : Byte) : (s.memWrite addr v).f = s.f := by unfold State.memWrite; split; rfl; split; rfl; simp
@[simp] theorem State.memWrite_b (s : State) (addr : Word) (v : Byte) : (s.memWrite addr v).b = s.b := by unfold State.memWrite; split; rfl; split; rfl; simp
@[simp] theorem State.memWrite_c (s : State) (addr : Word) (v : Byte) : (s.memWrite addr v).c = s.c := by unfold State.memWrite; split; rfl; split; rfl; simp
@[simp] theorem State.memWrite_d (s : State) (addr : Word) (v : Byte) : (s.memWrite addr v).d = s.d := by unfold State.memWrite; split; rfl; split; rfl; simp
@[simp] theorem State.memWrite_e (s : State) (addr : Word) (v : Byte) : (s.memWrite addr v).e = s.e := by unfold State.memWrite; split; rfl; split; rfl; simp
@[simp] theorem State.memWrite_h (s : State) (addr : Word) (v : Byte) : (s.memWrite addr v).h = s.h := by unfold State.memWrite; split; rfl; split; rfl; simp
@[simp] theorem State.memWrite_l (s : State) (addr : Word) (v : Byte) : (s.memWrite addr v).l = s.l := by unfold State.memWrite; split; rfl; split; rfl; simp
@[simp] theorem State.memWrite_sp (s : State) (addr : Word) (v : Byte) : (s.memWrite addr v).sp = s.sp := by unfold State.memWrite; split; rfl; split; rfl; simp
@[simp] theorem State.memWrite_pc (s : State) (addr : Word) (v : Byte) : (s.memWrite addr v).pc = s.pc := by unfold State.memWrite; split; rfl; split; rfl; simp
@[simp] theorem State.memWrite_ime (s : State) (addr : Word) (v : Byte) : (s.memWrite addr v).ime = s.ime := by unfold State.memWrite; split; rfl; split; rfl; simp
@[simp] theorem State.memWrite_eiPending (s : State) (addr : Word) (v : Byte) : (s.memWrite addr v).eiPending = s.eiPending := by unfold State.memWrite; split; rfl; split; rfl; simp
@[simp] theorem State.memWrite_halted (s : State) (addr : Word) (v : Byte) : (s.memWrite addr v).halted = s.halted := by unfold State.memWrite; split; rfl; split; rfl; simp
@[simp] theorem State.memWrite_haltBug (s : State) (addr : Word) (v : Byte) : (s.memWrite addr v).haltBug = s.haltBug := by unfold State.memWrite; split; rfl; split; rfl; simp
@[simp] theorem State.memWrite_timaCounter (s : State) (addr : Word) (v : Byte) : (s.memWrite addr v).timaCounter = s.timaCounter := by unfold State.memWrite; split; rfl; split; rfl; simp
@[simp] theorem State.memWrite_runState (s : State) (addr : Word) (v : Byte) : (s.memWrite addr v).runState = s.runState := by unfold State.memWrite; split; rfl; split; rfl; simp
@[simp] theorem State.memWrite_cycles (s : State) (addr : Word) (v : Byte) : (s.memWrite addr v).cycles = s.cycles := by unfold State.memWrite; split; rfl; split; rfl; simp
@[simp] theorem State.memWrite_cfg (s : State) (addr : Word) (v : Byte) : (s.memWrite addr v).cfg = s.cfg := by unfold State.memWrite; split; rfl; split; rfl; simp
@[simp] theorem State.memWrite_env (s : State) (addr : Word) (v : Byte) : (s.memWrite addr v).env = s.env := by unfold State.memWrite; split; rfl; split; rfl; simp

/-! #### `State.writePlace` -/

@[simp] theorem State.writePlace_f (s : State) (x : Place) (v : Byte) : (s.writePlace x v).f = s.f := by cases x <;> simp [State.writePlace]
@[simp] theorem State.writePlace_sp (s : State) (x : Place) (v : Byte) : (s.writePlace x v).sp = s.sp := by cases x <;> simp [State.writePlace]
@[simp] theorem State.writePlace_pc (s : State) (x : Place) (v : Byte) : (s.writePlace x v).pc = s.pc := by cases x <;> simp [State.writePlace]
@[simp] theorem State.writePlace_ime (s : State) (x : Place) (v : Byte) : (s.writePlace x v).ime = s.ime := by cases x <;> simp [State.writePlace]
@[simp] theorem State.writePlace_eiPending (s : State) (x : Place) (v : Byte) : (s.writePlace x v).eiPending = s.eiPending := by cases x <;> simp [State.writePlace]
@[simp] theorem State.writePlace_halted (s : State) (x : Place) (v : Byte) : (s.writePlace x v).halted = s.halted := by cases x <;> simp [State.writePlace]
@[simp] theorem State.writePlace_haltBug (s : State) (x : Place) (v : Byte) : (s.writePlace x v).haltBug = s.haltBug := by cases x <;> simp [State.writePlace]
@[simp] theorem State.writePlace_timaCounter (s : State) (x : Place) (v : Byte) : (s.writePlace x v).timaCounter = s.timaCounter := by cases x <;> simp [State.writePlace]
@[simp] theorem State.writePlace_runState (s : State) (x : Place) (v : Byte) : (s.writePlace x v).runState = s.runState := by cases x <;> simp [State.writePlace]
@[simp] theorem State.writePlace_cycles (s : State) (x : Place) (v : Byte) : (s.writePlace x v).cycles = s.cycles := by cases x <;> simp [State.writePlace]
@[simp] theorem State.writePlace_cfg (s : State) (x : Place) (v : Byte) : (s.writePlace x v).cfg = s.cfg := by cases x <;> simp [State.writePlace]
@[simp] theorem State.writePlace_env (s : State) (x : Place) (v : Byte) : (s.writePlace x v).env = s.env := by cases x <;> simp [State.writePlace]

/-! #### `State.push16` -/

@[simp] theorem State.push16_a (s : State) (v : Word) : (s.push16 v).a = s.a := by simp [State.push16]
@[simp] theorem State.push16_f (s : State) (v : Word) : (s.push16 v).f = s.f := by simp [State.push16]
@[simp] theorem State.push16_b (s : State) (v : Word) : (s.push16 v).b = s.b := by simp [State.push16]
@[simp] theorem State.push16_c (s : State) (v : Word) : (s.push16 v).c = s.c := by simp [State.push16]
@[simp] theorem State.push16_d (s : State) (v : Word) : (s.push16 v).d = s.d := by simp [State.push16]
@[simp] theorem State.push16_e (s : State) (v : Word) : (s.push16 v).e = s.e := by simp [State.push16]
@[simp] theorem State.push16_h (s : State) (v : Word) : (s.push16 v).h = s.h := by simp [State.push16]
@[simp] theorem State.push16_l (s : State) (v : Word) : (s.push16 v).l = s.l := by simp [State.push16]
@[simp] theorem State.push16_sp (s : State) (v : Word) : (s.push16 v).sp = s.sp - 1 - 1 := by simp [State.push16]
@[simp] theorem State.push16_pc (s : State) (v : Word) : (s.push16 v).pc = s.pc := by simp [State.push16]
@[simp] theorem State.push16_ime (s : State) (v : Word) : (s.push16 v).ime = s.ime := by simp [State.push16]
@[simp] theorem State.push16_eiPending (s : State) (v : Word) : (s.push16 v).eiPending = s.eiPending := by simp [State.push16]
@[simp] theorem State.push16_halted (s : State) (v : Word) : (s.push16 v).halted = s.halted := by simp [State.push16]
@[simp] theorem State.push16_haltBug (s : State) (v : Word) : (s.push16 v).haltBug = s.haltBug := by simp [State.push16]
@[simp] theorem State.push16_timaCounter (s : State) (v : Word) : (s.push16 v).timaCounter = s.timaCounter := by simp [State.push16]
@[simp] theorem State.push16_runState (s : State) (v : Word) : (s.push16 v).runState = s.runState := by simp [State.push16]
@[simp] theorem State.push16_cycles (s : State) (v : Word) : (s.push16 v).cycles = s.cycles := by simp [State.push16]
@[simp] theorem State.push16_cfg (s : State) (v : Word) : (s.push16 v).cfg = s.cfg := by simp [State.push16]
@[simp] theorem State.push16_env (s : State) (v : Word) : (s.push16 v).env = s.env := by simp [State.push16]

/-! #### `State.popPc` -/

@[simp] theorem State.popPc_a (s : State) : (s.popPc).a = s.a := rfl
@[simp] theorem State.popPc_f (s : State) : (s.popPc).f = s.f := rfl
@[simp] theorem State.popPc_b (s : State) : (s.popPc).b = s.b := rfl
@[simp] theorem State.popPc_c (s : State) : (s.popPc).c = s.c := rfl
@[simp] theorem State.popPc_d (s : State) : (s.popPc).d = s.d := rfl
@[simp] theorem State.popPc_e (s : State) : (s.popPc).e = s.e := rfl
@[simp] theorem State.popPc_h (s : State) : (s.popPc).h = s.h := rfl
@[simp] theorem State.popPc_l (s : State) : (s.popPc).l = s.l := rfl
@[simp] theorem State.popPc_sp (s : State) : (s.popPc).sp = s.sp + 2 := rfl
@[simp] theorem State.popPc_pc (s : State) : (s.popPc).pc = s.popped := rfl
@[simp] theorem State.popPc_ime (s : State) : (s.popPc).ime = s.ime := rfl
@[simp] theorem State.popPc_eiPending (s : State) : (s.popPc).eiPending = s.eiPending := rfl
@[simp] theorem State.popPc_halted (s : State) : (s.popPc).halted = s.halted := rfl
@[simp] theorem State.popPc_haltBug (s : State) : (s.popPc).haltBug = s.haltBug := rfl
@[simp] theorem State.popPc_divCounter (s : State) : (s.popPc).divCounter = s.divCounter := rfl
@[simp] theorem State.popPc_timaCounter (s : State) : (s.popPc).timaCounter = s.timaCounter := rfl
@[simp] theorem State.popPc_div (s : State) : (s.popPc).div = s.div := rfl
@[simp] theorem State.popPc_tima (s : State) : (s.popPc).tima = s.tima := rfl
@[simp] theorem State.popPc_tma (s : State) : (s.popPc).tma = s.tma := rfl
@[simp] theorem State.popPc_tac (s : State) : (s.popPc).tac = s.tac := rfl
@[simp] theorem State.popPc_iflag (s : State) : (s.popPc).iflag = s.iflag := rfl
@[simp] theorem State.popPc_ie (s : State) : (s.popPc).ie = s.ie := rfl
@[simp] theorem State.popPc_mem (s : State) : (s.popPc).mem = s.mem := rfl
@[simp] theorem State.popPc_runState (s : State) : (s.popPc).runState = s.runState := rfl
@[simp] theorem State.popPc_cycles (s : State) : (s.popPc).cycles = s.cycles := rfl
@[simp] theorem State.popPc_cfg (s : State) : (s.popPc).cfg = s.cfg := rfl
@[simp] theorem State.popPc_env (s : State) : (s.popPc).env = s.env := rfl

/-! #### `State.returnFromInterrupt` -/

@[simp] theorem State.returnFromInterrupt_a (s : State) : (s.returnFromInterrupt).a = s.a := rfl
@[simp] theorem State.returnFromInterrupt_f (s : State) : (s.returnFromInterrupt).f = s.f := rfl
@[simp] theorem State.returnFromInterrupt_b (s : State) : (s.returnFromInterrupt).b = s.b := rfl
@[simp] theorem State.returnFromInterrupt_c (s : State) : (s.returnFromInterrupt).c = s.c := rfl
@[simp] theorem State.returnFromInterrupt_d (s : State) : (s.returnFromInterrupt).d = s.d := rfl
@[simp] theorem State.returnFromInterrupt_e (s : State) : (s.returnFromInterrupt).e = s.e := rfl
@[simp] theorem State.returnFromInterrupt_h (s : State) : (s.returnFromInterrupt).h = s.h := rfl
@[simp] theorem State.returnFromInterrupt_l (s : State) : (s.returnFromInterrupt).l = s.l := rfl
@[simp] theorem State.returnFromInterrupt_sp (s : State) : (s.returnFromInterrupt).sp = s.sp + 2 := rfl
@[simp] theorem State.returnFromInterrupt_pc (s : State) : (s.returnFromInterrupt).pc = s.popped := rfl
@[simp] theorem State.returnFromInterrupt_ime (s : State) : (s.returnFromInterrupt).ime = true := rfl
@[simp] theorem State.returnFromInterrupt_eiPending (s : State) : (s.returnFromInterrupt).eiPending = s.eiPending := rfl
@[simp] theorem State.returnFromInterrupt_halted (s : State) : (s.returnFromInterrupt).halted = s.halted := rfl
@[simp] theorem State.returnFromInterrupt_haltBug (s : State) : (s.returnFromInterrupt).haltBug = s.haltBug := rfl
@[simp] theorem State.returnFromInterrupt_divCounter (s : State) : (s.returnFromInterrupt).divCounter = s.divCounter := rfl
@[simp] theorem State.returnFromInterrupt_timaCounter (s : State) : (s.returnFromInterrupt).timaCounter = s.timaCounter := rfl
@[simp] theorem State.returnFromInterrupt_div (s : State) : (s.returnFromInterrupt).div = s.div := rfl
@[simp] theorem State.returnFromInterrupt_tima (s : State) : (s.returnFromInterrupt).tima = s.tima := rfl
@[simp] theorem State.returnFromInterrupt_tma (s : State) : (s.returnFromInterrupt).tma = s.tma := rfl
@[simp] theorem State.returnFromInterrupt_tac (s : State) : (s.returnFromInterrupt).tac = s.tac := rfl
@[simp] theorem State.returnFromInterrupt_iflag (s : State) : (s.returnFromInterrupt).iflag = s.iflag := rfl
@[simp] theorem State.returnFromInterrupt_ie (s : State) : (s.returnFromInterrupt).ie = s.ie := rfl
@[simp] theorem State.returnFromInterrupt_mem (s : State) : (s.returnFromInterrupt).mem = s.mem := rfl
@[simp] theorem State.returnFromInterrupt_runState (s : State) : (s.returnFromInterrupt).runState = s.runState := rfl
@[simp] theorem State.returnFromInterrupt_cycles (s : State) : (s.returnFromInterrupt).cycles = s.cycles := rfl
@[simp] theorem State.returnFromInterrupt_cfg (s : State) : (s.returnFromInterrupt).cfg = s.cfg := rfl
@[simp] theorem State.returnFromInterrupt_env (s : State) : (s.returnFromInterrupt).env = s.env := rfl

/-! #### `State.relative` -/

@[simp] theorem State.relative_a (s : State) (e : Byte) : (s.relative e).a = s.a := rfl
@[simp] theorem State.relative_f (s : State) (e : Byte) : (s.relative e).f = s.f := rfl
@[simp] theorem State.relative_b (s : State) (e : Byte) : (s.relative e).b = s.b := rfl
@[simp] theorem State.relative_c (s : State) (e : Byte) : (s.relative e).c = s.c := rfl
@[simp] theorem State.relative_d (s : State) (e : Byte) : (s.relative e).d = s.d := rfl
@[simp] theorem State.relative_e (s : State) (e : Byte) : (s.relative e).e = s.e := rfl
@[simp] theorem State.relative_h (s : State) (e : Byte) : (s.relative e).h = s.h := rfl
@[simp] theorem State.relative_l (s : State) (e : Byte) : (s.relative e).l = s.l := rfl
@[simp] theorem State.relative_sp (s : State) (e : Byte) : (s.relative e).sp = s.sp := rfl
@[simp] theorem State.relative_pc (s : State) (e : Byte) : (s.relative e).pc = s.pc + sext16 e := rfl
@[simp] theorem State.relative_ime (s : State) (e : Byte) : (s.relative e).ime = s.ime := rfl
@[simp] theorem State.relative_eiPending (s : State) (e : Byte) : (s.relative e).eiPending = s.eiPending := rfl
@[simp] theorem State.relative_halted (s : State) (e : Byte) : (s.relative e).halted = s.halted := rfl
@[simp] theorem State.relative_haltBug (s : State) (e : Byte) : (s.relative e).haltBug = s.haltBug := rfl
@[simp] theorem State.relative_divCounter (s : State) (e : Byte) : (s.relative e).divCounter = s.divCounter := rfl
@[simp] theorem State.relative_timaCounter (s : State) (e : Byte) : (s.relative e).timaCounter = s.timaCounter := rfl
@[simp] theorem State.relative_div (s : State) (e : Byte) : (s.relative e).div = s.div := rfl
@[simp] theorem State.relative_tima (s : State) (e : Byte) : (s.relative e).tima = s.tima := rfl
@[simp] theorem State.relative_tma (s : State) (e : Byte) : (s.relative e).tma = s.tma := rfl
@[simp] theorem State.relative_tac (s : State) (e : Byte) : (s.relative e).tac = s.tac := rfl
@[simp] theorem State.relative_iflag (s : State) (e : Byte) : (s.relative e).iflag = s.iflag := rfl
@[simp] theorem State.relative_ie (s : State) (e : Byte) : (s.relative e).ie = s.ie := rfl
@[simp] theorem State.relative_mem (s : State) (e : Byte) : (s.relative e).mem = s.mem := rfl
@[simp] theorem State.relative_runState (s : State) (e : Byte) : (s.relative e).runState = s.runState := rfl
@[simp] theorem State.relative_cycles (s : State) (e : Byte) : (s.relative e).cycles = s.cycles := rfl
@[simp] theorem State.relative_cfg (s : State) (e : Byte) : (s.relative e).cfg = s.cfg := rfl
@[simp] theorem State.relative_env (s : State) (e : Byte) : (s.relative e).env = s.env := rfl

/-! #### `State.callTo` -/

@[simp] theorem State.callTo_a (s : State) (target : Word) : (s.callTo target).a = s.a := by simp [State.callTo]
@[simp] theorem State.callTo_f (s : State) (target : Word) : (s.callTo target).f = s.f := by simp [State.callTo]
@[simp] theorem State.callTo_b (s : State) (target : Word) : (s.callTo target).b = s.b := by simp [State.callTo]
@[simp] theorem State.callTo_c (s : State) (target : Word) : (s.callTo target).c = s.c := by simp [State.callTo]
@[simp] theorem State.callTo_d (s : State) (target : Word) : (s.callTo target).d = s.d := by simp [State.callTo]
@[simp] theorem State.callTo_e (s : State) (target : Word) : (s.callTo target).e = s.e := by simp [State.callTo]
@[simp] theorem State.callTo_h (s : State) (target : Word) : (s.callTo target).h = s.h := by simp [State.callTo]
@[simp] theorem State.callTo_l (s : State) (target : Word) : (s.callTo target).l = s.l := by simp [State.callTo]
@[simp] theorem State.callTo_sp (s : State) (target : Word) : (s.callTo target).sp = s.sp - 1 - 1 := by simp [State.callTo]
@[simp] theorem State.callTo_pc (s : State) (target : Word) : (s.callTo target).pc = target := by simp [State.callTo]
@[simp] theorem State.callTo_ime (s : State) (target : Word) : (s.callTo target).ime = s.ime := by simp [State.callTo]
@[simp] theorem State.callTo_eiPending (s : State) (target : Word) : (s.callTo target).eiPending = s.eiPending := by simp [State.callTo]
@[simp] theorem State.callTo_halted (s : State) (target : Word) : (s.callTo target).halted = s.halted := by simp [State.callTo]
@[simp] theorem State.callTo_haltBug (s : State) (target : Word) : (s.callTo target).haltBug = s.haltBug := by simp [State.callTo]
@[simp] theorem State.callTo_timaCounter (s : State) (target : Word) : (s.callTo target).timaCounter = s.timaCounter := by simp [State.callTo]
@[simp] theorem State.callTo_runState (s : State) (target : Word) : (s.callTo target).runState = s.runState := by simp [State.callTo]
@[simp] theorem State.callTo_cycles (s : State) (target : Word) : (s.callTo target).cycles = s.cycles := by simp [State.callTo]
@[simp] theorem State.callTo_cfg (s : State) (target : Word) : (s.callTo target).cfg = s.cfg := by simp [State.callTo]
@[simp] theorem State.callTo_env (s : State) (target : Word) : (s.callTo target).env = s.env := by simp [State.callTo]

/-! #### `State.haltNow` -/

@[simp] theorem State.haltNow_a (s : State) : (s.haltNow).a = s.a := by unfold State.haltNow; split <;> rfl
@[simp] theorem State.haltNow_f (s : State) : (s.haltNow).f = s.f := by unfold State.haltNow; split <;> rfl
@[simp] theorem State.haltNow_b (s : State) : (s.haltNow).b = s.b := by unfold State.haltNow; split <;> rfl
@[simp] theorem State.haltNow_c (s : State) : (s.haltNow).c = s.c := by unfold State.haltNow; split <;> rfl
@[simp] theorem State.haltNow_d (s : State) : (s.haltNow).d = s.d := by unfold State.haltNow; split <;> rfl
@[simp] theorem State.haltNow_e (s : State) : (s.haltNow).e = s.e := by unfold State.haltNow; split <;> rfl
@[simp] theorem State.haltNow_h (s : State) : (s.haltNow).h = s.h := by unfold State.haltNow; split <;> rfl
@[simp] theorem State.haltNow_l (s : State) : (s.haltNow).l = s.l := by unfold State.haltNow; split <;> rfl
@[simp] theorem State.haltNow_sp (s : State) : (s.haltNow).sp = s.sp := by unfold State.haltNow; split <;> rfl
@[simp] theorem State.haltNow_pc (s : State) : (s.haltNow).pc = s.pc := by unfold State.haltNow; split <;> rfl
@[simp] theorem State.haltNow_ime (s : State) : (s.haltNow).ime = s.ime := by unfold State.haltNow; split <;> rfl
@[simp] theorem State.haltNow_eiPending (s : State) : (s.haltNow).eiPending = s.eiPending := by unfold State.haltNow; split <;> rfl
@[simp] theorem State.haltNow_divCounter (s : State) : (s.haltNow).divCounter = s.divCounter := by unfold State.haltNow; split <;> rfl
@[simp] theorem State.haltNow_timaCounter (s : State) : (s.haltNow).timaCounter = s.timaCounter := by unfold State.haltNow; split <;> rfl
@[simp] theorem State.haltNow_div (s : State) : (s.haltNow).div = s.div := by unfold State.haltNow; split <;> rfl
@[simp] theorem State.haltNow_tima (s : State) : (s.haltNow).tima = s.tima := by unfold State.haltNow; split <;> rfl
@[simp] theorem State.haltNow_tma (s : State) : (s.haltNow).tma = s.tma := by unfold State.haltNow; split <;> rfl
@[simp] theorem State.haltNow_tac (s : State) : (s.haltNow).tac = s.tac := by unfold State.haltNow; split <;> rfl
@[simp] theorem State.haltNow_iflag (s : State) : (s.haltNow).iflag = s.iflag := by unfold State.haltNow; split <;> rfl
@[simp] theorem State.haltNow_ie (s : State) : (s.haltNow).ie = s.ie := by unfold State.haltNow; split <;> rfl
@[simp] theorem State.haltNow_mem (s : State) : (s.haltNow).mem = s.mem := by unfold State.haltNow; split <;> rfl
@[simp] theorem State.haltNow_runState (s : State) : (s.haltNow).runState = s.runState := by unfold State.haltNow; split <;> rfl
@[simp] theorem State.haltNow_cycles (s : State) : (s.haltNow).cycles = s.cycles := by unfold State.haltNow; split <;> rfl
@[simp] theorem State.haltNow_cfg (s : State) : (s.haltNow).cfg = s.cfg := by unfold State.haltNow; split <;> rfl
@[simp] theorem State.haltNow_env (s : State) : (s.haltNow).env = s.env := by unfold State.haltNow; split <;> rfl

/-! #### `State.raiseUndefinedOpcode` -/

@[simp] theorem State.raiseUndefinedOpcode_a (s : State) (op : Byte) : (s.raiseUndefinedOpcode op).a = s.a := rfl
@[simp] theorem State.raiseUndefinedOpcode_f (s : State) (op : Byte) : (s.raiseUndefinedOpcode op).f = s.f := rfl
@[simp] theorem State.raiseUndefinedOpcode_b (s : State) (op : Byte) : (s.raiseUndefinedOpcode op).b = s.b := rfl
@[simp] theorem State.raiseUndefinedOpcode_c (s : State) (op : Byte) : (s.raiseUndefinedOpcode op).c = s.c := rfl
@[simp] theorem State.raiseUndefinedOpcode_d (s : State) (op : Byte) : (s.raiseUndefinedOpcode op).d = s.d := rfl
@[simp] theorem State.raiseUndefinedOpcode_e (s : State) (op : Byte) : (s.raiseUndefinedOpcode op).e = s.e := rfl
@[simp] theorem State.raiseUndefinedOpcode_h (s : State) (op : Byte) : (s.raiseUndefinedOpcode op).h = s.h := rfl
@[simp] theorem State.raiseUndefinedOpcode_l (s : State) (op : Byte) : (s.raiseUndefinedOpcode op).l = s.l := rfl
@[simp] theorem State.raiseUndefinedOpcode_sp (s : State) (op : Byte) : (s.raiseUndefinedOpcode op).sp = s.sp := rfl
@[simp] theorem State.raiseUndefinedOpcode_pc (s : State) (op : Byte) : (s.raiseUndefinedOpcode op).pc = s.pc := rfl
@[simp] theorem State.raiseUndefinedOpcode_ime (s : State) (op : Byte) : (s.raiseUndefinedOpcode op).ime = s.ime := rfl
@[simp] theorem State.raiseUndefinedOpcode_eiPending (s : State) (op : Byte) : (s.raiseUndefinedOpcode op).eiPending = s.eiPending := rfl
@[simp] theorem State.raiseUndefinedOpcode_halted (s : State) (op : Byte) : (s.raiseUndefinedOpcode op).halted = s.halted := rfl
@[simp] theorem State.raiseUndefinedOpcode_haltBug (s : State) (op : Byte) : (s.raiseUndefinedOpcode op).haltBug = s.haltBug := rfl
@[simp] theorem State.raiseUndefinedOpcode_divCounter (s : State) (op : Byte) : (s.raiseUndefinedOpcode op).divCounter = s.divCounter := rfl
@[simp] theorem State.raiseUndefinedOpcode_timaCounter (s : State) (op : Byte) : (s.raiseUndefinedOpcode op).timaCounter = s.timaCounter := rfl
@[simp] theorem State.raiseUndefinedOpcode_div (s : State) (op : Byte) : (s.raiseUndefinedOpcode op).div = s.div := rfl
@[simp] theorem State.raiseUndefinedOpcode_tima (s : State) (op : Byte) : (s.raiseUndefinedOpcode op).tima = s.tima := rfl
@[simp] theorem State.raiseUndefinedOpcode_tma (s : State) (op : Byte) : (s.raiseUndefinedOpcode op).tma = s.tma := rfl
@[simp] theorem State.raiseUndefinedOpcode_tac (s : State) (op : Byte) : (s.raiseUndefinedOpcode op).tac = s.tac := rfl
@[simp] theorem State.raiseUndefinedOpcode_iflag (s : State) (op : Byte) : (s.raiseUndefinedOpcode op).iflag = s.iflag := rfl
@[simp] theorem State.raiseUndefinedOpcode_ie (s : State) (op : Byte) : (s.raiseUndefinedOpcode op).ie = s.ie := rfl
@[simp] theorem State.raiseUndefinedOpcode_mem (s : State) (op : Byte) : (s.raiseUndefinedOpcode op).mem = s.mem := rfl
@[simp] theorem State.raiseUndefinedOpcode_runState (s : State) (op : Byte) : (s.raiseUndefinedOpcode op).runState = .faulted { kind := .undefinedOpcode, pc := s.pc, op := op } := rfl
@[simp] theorem State.raiseUndefinedOpcode_cycles (s : State) (op : Byte) : (s.raiseUndefinedOpcode op).cycles = 0 := rfl
@[simp] theorem State.raiseUndefinedOpcode_cfg (s : State) (op : Byte) : (s.raiseUndefinedOpcode op).cfg = s.cfg := rfl
@[simp] theorem State.raiseUndefinedOpcode_env (s : State) (op : Byte) : (s.raiseUndefinedOpcode op).env = s.env := rfl

/-! #### `State.wake` -/

@[simp] theorem State.wake_a (s : State) : (s.wake).a = s.a := by unfold State.wake; split <;> rfl
@[simp] theorem State.wake_f (s : State) : (s.wake).f = s.f := by unfold State.wake; split <;> rfl
@[simp] theorem State.wake_b (s : State) : (s.wake).b = s.b := by unfold State.wake; split <;> rfl
@[simp] theorem State.wake_c (s : State) : (s.wake).c = s.c := by unfold State.wake; split <;> rfl
@[simp] theorem State.wake_d (s : State) : (s.wake).d = s.d := by unfold State.wake; split <;> rfl
@[simp] theorem State.wake_e (s : State) : (s.wake).e = s.e := by unfold State.wake; split <;> rfl
@[simp] theorem State.wake_h (s : State) : (s.wake).h = s.h := by unfold State.wake; split <;> rfl
@[simp] theorem State.wake_l (s : State) : (s.wake).l = s.l := by unfold State.wake; split <;> rfl
@[simp] theorem State.wake_sp (s : State) : (s.wake).sp = s.sp := by unfold State.wake; split <;> rfl
@[simp] theorem State.wake_pc (s : State) : (s.wake).pc = s.pc := by unfold State.wake; split <;> rfl
@[simp] theorem State.wake_ime (s : State) : (s.wake).ime = s.ime := by unfold State.wake; split <;> rfl
@[simp] theorem State.wake_eiPending (s : State) : (s.wake).eiPending = s.eiPending := by unfold State.wake; split <;> rfl
@[simp] theorem State.wake_haltBug (s : State) : (s.wake).haltBug = s.haltBug := by unfold State.wake; split <;> rfl
@[simp] theorem State.wake_divCounter (s : State) : (s.wake).divCounter = s.divCounter := by unfold State.wake; split <;> rfl
@[simp] theorem State.wake_timaCounter (s : State) : (s.wake).timaCounter = s.timaCounter := by unfold State.wake; split <;> rfl
@[simp] theorem State.wake_div (s : State) : (s.wake).div = s.div := by unfold State.wake; split <;> rfl
@[simp] theorem State.wake_tima (s : State) : (s.wake).tima = s.tima := by unfold State.wake; split <;> rfl
@[simp] theorem State.wake_tma (s : State) : (s.wake).tma = s.tma := by unfold State.wake; split <;> rfl
@[simp] theorem State.wake_tac (s : State) : (s.wake).tac = s.tac := by unfold State.wake; split <;> rfl
@[simp] theorem State.wake_iflag (s : State) : (s.wake).iflag = s.iflag := by unfold State.wake; split <;> rfl
@[simp] theorem State.wake_ie (s : State) : (s.wake).ie = s.ie := by unfold State.wake; split <;> rfl
@[simp] theorem State.wake_mem (s : State) : (s.wake).mem = s.mem := by unfold State.wake; split <;> rfl
@[simp] theorem State.wake_runState (s : State) : (s.wake).runState = s.runState := by unfold State.wake; split <;> rfl
@[simp] theorem State.wake_cycles (s : State) : (s.wake).cycles = s.cycles := by unfold State.wake; split <;> rfl
@[simp] theorem State.wake_cfg (s : State) : (s.wake).cfg = s.cfg := by unfold State.wake; split <;> rfl
@[simp] theorem State.wake_env (s : State) : (s.wake).env = s.env := by unfold State.wake; split <;> rfl

/-! #### `State.idle` -/

@[simp] theorem State.idle_a (s : State) : (s.idle).a = s.a := rfl
@[simp] theorem State.idle_f (s : State) : (s.idle).f = s.f := rfl
@[simp] theorem State.idle_b (s : State) : (s.idle).b = s.b := rfl
@[simp] theorem State.idle_c (s : State) : (s.idle).c = s.c := rfl
@[simp] theorem State.idle_d (s : State) : (s.idle).d = s.d := rfl
@[simp] theorem State.idle_e (s : State) : (s.idle).e = s.e := rfl
@[simp] theorem State.idle_h (s : State) : (s.idle).h = s.h := rfl
@[simp] theorem State.idle_l (s : State) : (s.idle).l = s.l := rfl
@[simp] theorem State.idle_sp (s : State) : (s.idle).sp = s.sp := rfl
@[simp] theorem State.idle_pc (s : State) : (s.idle).pc = s.pc := rfl
@[simp] theorem State.idle_ime (s : State) : (s.idle).ime = s.ime := rfl
@[simp] theorem State.idle_eiPending (s : State) : (s.idle).eiPending = s.eiPending := rfl
@[simp] theorem State.idle_halted (s : State) : (s.idle).halted = s.halted := rfl
@[simp] theorem State.idle_haltBug (s : State) : (s.idle).haltBug = s.haltBug := rfl
@[simp] theorem State.idle_divCounter (s : State) : (s.idle).divCounter = s.divCounter := rfl
@[simp] theorem State.idle_timaCounter (s : State) : (s.idle).timaCounter = s.timaCounter := rfl
@[simp] theorem State.idle_div (s : State) : (s.idle).div = s.div := rfl
@[simp] theorem State.idle_tima (s : State) : (s.idle).tima = s.tima := rfl
@[simp] theorem State.idle_tma (s : State) : (s.idle).tma = s.tma := rfl
@[simp] theorem State.idle_tac (s : State) : (s.idle).tac = s.tac := rfl
@[simp] theorem State.idle_iflag (s : State) : (s.idle).iflag = s.iflag := rfl
@[simp] theorem State.idle_ie (s : State) : (s.idle).ie = s.ie := rfl
@[simp] theorem State.idle_mem (s : State) : (s.idle).mem = s.mem := rfl
@[simp] theorem State.idle_runState (s : State) : (s.idle).runState = s.runState := rfl
@[simp] theorem State.idle_cycles (s : State) : (s.idle).cycles = 1 := rfl
@[simp] theorem State.idle_cfg (s : State) : (s.idle).cfg = s.cfg := rfl
@[simp] theorem State.idle_env (s : State) : (s.idle).env = s.env := rfl

/-! #### `State.completeLatch` -/

@[simp] theorem State.completeLatch_a (s : State) (armed : Bool) : (s.completeLatch armed).a = s.a := by unfold State.completeLatch; split <;> rfl
@[simp] theorem State.completeLatch_f (s : State) (armed : Bool) : (s.completeLatch armed).f = s.f := by unfold State.completeLatch; split <;> rfl
@[simp] theorem State.completeLatch_b (s : State) (armed : Bool) : (s.completeLatch armed).b = s.b := by unfold State.completeLatch; split <;> rfl
@[simp] theorem State.completeLatch_c (s : State) (armed : Bool) : (s.completeLatch armed).c = s.c := by unfold State.completeLatch; split <;> rfl
@[simp] theorem State.completeLatch_d (s : State) (armed : Bool) : (s.completeLatch armed).d = s.d := by unfold State.completeLatch; split <;> rfl
@[simp] theorem State.completeLatch_e (s : State) (armed : Bool) : (s.completeLatch armed).e = s.e := by unfold State.completeLatch; split <;> rfl
@[simp] theorem State.completeLatch_h (s : State) (armed : Bool) : (s.completeLatch armed).h = s.h := by unfold State.completeLatch; split <;> rfl
@[simp] theorem State.completeLatch_l (s : State) (armed : Bool) : (s.completeLatch armed).l = s.l := by unfold State.completeLatch; split <;> rfl
@[simp] theorem State.completeLatch_sp (s : State) (armed : Bool) : (s.completeLatch armed).sp = s.sp := by unfold State.completeLatch; split <;> rfl
@[simp] theorem State.completeLatch_pc (s : State) (armed : Bool) : (s.completeLatch armed).pc = s.pc := by unfold State.completeLatch; split <;> rfl
@[simp] theorem State.completeLatch_halted (s : State) (armed : Bool) : (s.completeLatch armed).halted = s.halted := by unfold State.completeLatch; split <;> rfl
@[simp] theorem State.completeLatch_haltBug (s : State) (armed : Bool) : (s.completeLatch armed).haltBug = s.haltBug := by unfold State.completeLatch; split <;> rfl
@[simp] theorem State.completeLatch_divCounter (s : State) (armed : Bool) : (s.completeLatch armed).divCounter = s.divCounter := by unfold State.completeLatch; split <;> rfl
@[simp] theorem State.completeLatch_timaCounter (s : State) (armed : Bool) : (s.completeLatch armed).timaCounter = s.timaCounter := by unfold State.completeLatch; split <;> rfl
@[simp] theorem State.completeLatch_div (s : State) (armed : Bool) : (s.completeLatch armed).div = s.div := by unfold State.completeLatch; split <;> rfl
@[simp] theorem State.completeLatch_tima (s : State) (armed : Bool) : (s.completeLatch armed).tima = s.tima := by unfold State.completeLatch; split <;> rfl
@[simp] theorem State.completeLatch_tma (s : State) (armed : Bool) : (s.completeLatch armed).tma = s.tma := by unfold State.completeLatch; split <;> rfl
@[simp] theorem State.completeLatch_tac (s : State) (armed : Bool) : (s.completeLatch armed).tac = s.tac := by unfold State.completeLatch; split <;> rfl
@[simp] theorem State.completeLatch_iflag (s : State) (armed : Bool) : (s.completeLatch armed).iflag = s.iflag := by unfold State.completeLatch; split <;> rfl
@[simp] theorem State.completeLatch_ie (s : State) (armed : Bool) : (s.completeLatch armed).ie = s.ie := by unfold State.completeLatch; split <;> rfl
@[simp] theorem State.completeLatch_mem (s : State) (armed : Bool) : (s.completeLatch armed).mem = s.mem := by unfold State.completeLatch; split <;> rfl
@[simp] theorem State.completeLatch_runState (s : State) (armed : Bool) : (s.completeLatch armed).runState = s.runState := by unfold State.completeLatch; split <;> rfl
@[simp] theorem State.completeLatch_cycles (s : State) (armed : Bool) : (s.completeLatch armed).cycles = s.cycles := by unfold State.completeLatch; split <;> rfl
@[simp] theorem State.completeLatch_cfg (s : State) (armed : Bool) : (s.completeLatch armed).cfg = s.cfg := by unfold State.completeLatch; split <;> rfl
@[simp] theorem State.completeLatch_env (s : State) (armed : Bool) : (s.completeLatch armed).env = s.env := by unfold State.completeLatch; split <;> rfl

/-! #### `State.advanceDiv` -/

@[simp] theorem State.advanceDiv_a (s : State) (n : Nat) : (s.advanceDiv n).a = s.a := rfl
@[simp] theorem State.advanceDiv_f (s : State) (n : Nat) : (s.advanceDiv n).f = s.f := rfl
@[simp] theorem State.advanceDiv_b (s : State) (n : Nat) : (s.advanceDiv n).b = s.b := rfl
@[simp] theorem State.advanceDiv_c (s : State) (n : Nat) : (s.advanceDiv n).c = s.c := rfl
@[simp] theorem State.advanceDiv_d (s : State) (n : Nat) : (s.advanceDiv n).d = s.d := rfl
@[simp] theorem State.advanceDiv_e (s : State) (n : Nat) : (s.advanceDiv n).e = s.e := rfl
@[simp] theorem State.advanceDiv_h (s : State) (n : Nat) : (s.advanceDiv n).h = s.h := rfl
@[simp] theorem State.advanceDiv_l (s : State) (n : Nat) : (s.advanceDiv n).l = s.l := rfl
@[simp] theorem State.advanceDiv_sp (s : State) (n : Nat) : (s.advanceDiv n).sp = s.sp := rfl
@[simp] theorem State.advanceDiv_pc (s : State) (n : Nat) : (s.advanceDiv n).pc = s.pc := rfl
@[simp] theorem State.advanceDiv_ime (s : State) (n : Nat) : (s.advanceDiv n).ime = s.ime := rfl
@[simp] theorem State.advanceDiv_eiPending (s : State) (n : Nat) : (s.advanceDiv n).eiPending = s.eiPending := rfl
@[simp] theorem State.advanceDiv_halted (s : State) (n : Nat) : (s.advanceDiv n).halted = s.halted := rfl
@[simp] theorem State.advanceDiv_haltBug (s : State) (n : Nat) : (s.advanceDiv n).haltBug = s.haltBug := rfl
@[simp] theorem State.advanceDiv_divCounter (s : State) (n : Nat) : (s.advanceDiv n).divCounter = (s.divCounter + n) % 64 := rfl
@[simp] theorem State.advanceDiv_timaCounter (s : State) (n : Nat) : (s.advanceDiv n).timaCounter = s.timaCounter := rfl
@[simp] theorem State.advanceDiv_div (s : State) (n : Nat) : (s.advanceDiv n).div = s.div + BitVec.ofNat 8 ((s.divCounter + n) / 64) := rfl
@[simp] theorem State.advanceDiv_tima (s : State) (n : Nat) : (s.advanceDiv n).tima = s.tima := rfl
@[simp] theorem State.advanceDiv_tma (s : State) (n : Nat) : (s.advanceDiv n).tma = s.tma := rfl
@[simp] theorem State.advanceDiv_tac (s : State) (n : Nat) : (s.advanceDiv n).tac = s.tac := rfl
@[simp] theorem State.advanceDiv_iflag (s : State) (n : Nat) : (s.advanceDiv n).iflag = s.iflag := rfl
@[simp] theorem State.advanceDiv_ie (s : State) (n : Nat) : (s.advanceDiv n).ie = s.ie := rfl
@[simp] theorem State.advanceDiv_mem (s : State) (n : Nat) : (s.advanceDiv n).mem = s.mem := rfl
@[simp] theorem State.advanceDiv_runState (s : State) (n : Nat) : (s.advanceDiv n).runState = s.runState := rfl
@[simp] theorem State.advanceDiv_cycles (s : State) (n : Nat) : (s.advanceDiv n).cycles = s.cycles := rfl
@[simp] theorem State.advanceDiv_cfg (s : State) (n : Nat) : (s.advanceDiv n).cfg = s.cfg := rfl
@[simp] theorem State.advanceDiv_env (s : State) (n : Nat) : (s.advanceDiv n).env = s.env := rfl

/-! #### `State.timaTick` -/

@[simp] theorem State.timaTick_a (s : State) : (s.timaTick).a = s.a := by unfold State.timaTick; split <;> rfl
@[simp] theorem State.timaTick_f (s : State) : (s.timaTick).f = s.f := by unfold State.timaTick; split <;> rfl
@[simp] theorem State.timaTick_b (s : State) : (s.timaTick).b = s.b := by unfold State.timaTick; split <;> rfl
@[simp] theorem State.timaTick_c (s : State) : (s.timaTick).c = s.c := by unfold State.timaTick; split <;> rfl
@[simp] theorem State.timaTick_d (s : State) : (s.timaTick).d = s.d := by unfold State.timaTick; split <;> rfl
@[simp] theorem State.timaTick_e (s : State) : (s.timaTick).e = s.e := by unfold State.timaTick; split <;> rfl
@[simp] theorem State.timaTick_h (s : State) : (s.timaTick).h = s.h := by unfold State.timaTick; split <;> rfl
@[simp] theorem State.timaTick_l (s : State) : (s.timaTick).l = s.l := by unfold State.timaTick; split <;> rfl
@[simp] theorem State.timaTick_sp (s : State) : (s.timaTick).sp = s.sp := by unfold State.timaTick; split <;> rfl
@[simp] theorem State.timaTick_pc (s : State) : (s.timaTick).pc = s.pc := by unfold State.timaTick; split <;> rfl
@[simp] theorem State.timaTick_ime (s : State) : (s.timaTick).ime = s.ime := by unfold State.timaTick; split <;> rfl
@[simp] theorem State.timaTick_eiPending (s : State) : (s.timaTick).eiPending = s.eiPending := by unfold State.timaTick; split <;> rfl
@[simp] theorem State.timaTick_halted (s : State) : (s.timaTick).halted = s.halted := by unfold State.timaTick; split <;> rfl
@[simp] theorem State.timaTick_haltBug (s : State) : (s.timaTick).haltBug = s.haltBug := by unfold State.timaTick; split <;> rfl
@[simp] theorem State.timaTick_divCounter (s : State) : (s.timaTick).divCounter = s.divCounter := by unfold State.timaTick; split <;> rfl
@[simp] theorem State.timaTick_timaCounter (s : State) : (s.timaTick).timaCounter = s.timaCounter := by unfold State.timaTick; split <;> rfl
@[simp] theorem State.timaTick_div (s : State) : (s.timaTick).div = s.div := by unfold State.timaTick; split <;> rfl
@[simp] theorem State.timaTick_tma (s : State) : (s.timaTick).tma = s.tma := by unfold State.timaTick; split <;> rfl
@[simp] theorem State.timaTick_tac (s : State) : (s.timaTick).tac = s.tac := by unfold State.timaTick; split <;> rfl
@[simp] theorem State.timaTick_ie (s : State) : (s.timaTick).ie = s.ie := by unfold State.timaTick; split <;> rfl
@[simp] theorem State.timaTick_mem (s : State) : (s.timaTick).mem = s.mem := by unfold State.timaTick; split <;> rfl
@[simp] theorem State.timaTick_runState (s : State) : (s.timaTick).runState = s.runState := by unfold State.timaTick; split <;> rfl
@[simp] theorem State.timaTick_cycles (s : State) : (s.timaTick).cycles = s.cycles := by unfold State.timaTick; split <;> rfl
@[simp] theorem State.timaTick_cfg (s : State) : (s.timaTick).cfg = s.cfg := by unfold State.timaTick; split <;> rfl
@[simp] theorem State.timaTick_env (s : State) : (s.timaTick).env = s.env := by unfold State.timaTick; split <;> rfl

/-! #### `State.timaTicks` -/

@[simp] theorem State.timaTicks_a (s : State) (k : Nat) : (State.timaTicks s k).a = s.a := by
  induction k generalizing s with
  | zero => rfl
  | succ k ih => simp [State.timaTicks, ih]
@[simp] theorem State.timaTicks_f (s : State) (k : Nat) : (State.timaTicks s k).f = s.f := by
  induction k generalizing s with
  | zero => rfl
  | succ k ih => simp [State.timaTicks, ih]
@[simp] theorem State.timaTicks_b (s : State) (k : Nat) : (State.timaTicks s k).b = s.b := by
  induction k generalizing s with
  | zero => rfl
  | succ k ih => simp [State.timaTicks, ih]
@[simp] theorem State.timaTicks_c (s : State) (k : Nat) : (State.timaTicks s k).c = s.c := by
  induction k generalizing s with
  | zero => rfl
  | succ k ih => simp [State.timaTicks, ih]
@[simp] theorem State.timaTicks_d (s : State) (k : Nat) : (State.timaTicks s k).d = s.d := by
  induction k generalizing s with
  | zero => rfl
  | succ k ih => simp [State.timaTicks, ih]
@[simp] theorem State.timaTicks_e (s : State) (k : Nat) : (State.timaTicks s k).e = s.e := by
  induction k generalizing s with
  | zero => rfl
  | succ k ih => simp [State.timaTicks, ih]
@[simp] theorem State.timaTicks_h (s : State) (k : Nat) : (State.timaTicks s k).h = s.h := by
  induction k generalizing s with
  | zero => rfl
  | succ k ih => simp [State.timaTicks, ih]
@[simp] theorem State.timaTicks_l (s : State) (k : Nat) : (State.timaTicks s k).l = s.l := by
  induction k generalizing s with
  | zero => rfl
  | succ k ih => simp [State.timaTicks, ih]
@[simp] theorem State.timaTicks_sp (s : State) (k : Nat) : (State.timaTicks s k).sp = s.sp := by
  induction k generalizing s with
  | zero => rfl
  | succ k ih => simp [State.timaTicks, ih]
@[simp] theorem State.timaTicks_pc (s : State) (k : Nat) : (State.timaTicks s k).pc = s.pc := by
  induction k generalizing s with
  | zero => rfl
  | succ k ih => simp [State.timaTicks, ih]
@[simp] theorem State.timaTicks_ime (s : State) (k : Nat) : (State.timaTicks s k).ime = s.ime := by
  induction k generalizing s with
  | zero => rfl
  | succ k ih => simp [State.timaTicks, ih]
@[simp] theorem State.timaTicks_eiPending (s : State) (k : Nat) : (State.timaTicks s k).eiPending = s.eiPending := by
  induction k generalizing s with
  | zero => rfl
  | succ k ih => simp [State.timaTicks, ih]
@[simp] theorem State.timaTicks_halted (s : State) (k : Nat) : (State.timaTicks s k).halted = s.halted := by
  induction k generalizing s with
  | zero => rfl
  | succ k ih => simp [State.timaTicks, ih]
@[simp] theorem State.timaTicks_haltBug (s : State) (k : Nat) : (State.timaTicks s k).haltBug = s.haltBug := by
  induction k generalizing s with
  | zero => rfl
  | succ k ih => simp [State.timaTicks, ih]
@[simp] theorem State.timaTicks_divCounter (s : State) (k : Nat) : (State.timaTicks s k).divCounter = s.divCounter := by
  induction k generalizing s with
  | zero => rfl
  | succ k ih => simp [State.timaTicks, ih]
@[simp] theorem State.timaTicks_timaCounter (s : State) (k : Nat) : (State.timaTicks s k).timaCounter = s.timaCounter := by
  induction k generalizing s with
  | zero => rfl
  | succ k ih => simp [State.timaTicks, ih]
@[simp] theorem State.timaTicks_div (s : State) (k : Nat) : (State.timaTicks s k).div = s.div := by
  induction k generalizing s with
  | zero => rfl
  | succ k ih => simp [State.timaTicks, ih]
@[simp] theorem State.timaTicks_tma (s : State) (k : Nat) : (State.timaTicks s k).tma = s.tma := by
  induction k generalizing s with
  | zero => rfl
  | succ k ih => simp [State.timaTicks, ih]
@[simp] theorem State.timaTicks_tac (s : State) (k : Nat) : (State.timaTicks s k).tac = s.tac := by
  induction k generalizing s with
  | zero => rfl
  | succ k ih => simp [State.timaTicks, ih]
@[simp] theorem State.timaTicks_ie (s : State) (k : Nat) : (State.timaTicks s k).ie = s.ie := by
  induction k generalizing s with
  | zero => rfl
  | succ k ih => simp [State.timaTicks, ih]
@[simp] theorem State.timaTicks_mem (s : State) (k : Nat) : (State.timaTicks s k).mem = s.mem := by
  induction k generalizing s with
  | zero => rfl
  | succ k ih => simp [State.timaTicks, ih]
@[simp] theorem State.timaTicks_runState (s : State) (k : Nat) : (State.timaTicks s k).runState = s.runState := by
  induction k generalizing s with
  | zero => rfl
  | succ k ih => simp [State.timaTicks, ih]
@[simp] theorem State.timaTicks_cycles (s : State) (k : Nat) : (State.timaTicks s k).cycles = s.cycles := by
  induction k generalizing s with
  | zero => rfl
  | succ k ih => simp [State.timaTicks, ih]
@[simp] theorem State.timaTicks_cfg (s : State) (k : Nat) : (State.timaTicks s k).cfg = s.cfg := by
  induction k generalizing s with
  | zero => rfl
  | succ k ih => simp [State.timaTicks, ih]
@[simp] theorem State.timaTicks_env (s : State) (k : Nat) : (State.timaTicks s k).env = s.env := by
  induction k generalizing s with
  | zero => rfl
  | succ k ih => simp [State.timaTicks, ih]

/-! #### `State.advanceTima` -/

@[simp] theorem State.advanceTima_a (s : State) (n : Nat) : (s.advanceTima n).a = s.a := by unfold State.advanceTima; split <;> simp
@[simp] theorem State.advanceTima_f (s : State) (n : Nat) : (s.advanceTima n).f = s.f := by unfold State.advanceTima; split <;> simp
@[simp] theorem State.advanceTima_b (s : State) (n : Nat) : (s.advanceTima n).b = s.b := by unfold State.advanceTima; split <;> simp
@[simp] theorem State.advanceTima_c (s : State) (n : Nat) : (s.advanceTima n).c = s.c := by unfold State.advanceTima; split <;> simp
@[simp] theorem State.advanceTima_d (s : State) (n : Nat) : (s.advanceTima n).d = s.d := by unfold State.advanceTima; split <;> simp
@[simp] theorem State.advanceTima_e (s : State) (n : Nat) : (s.advanceTima n).e = s.e := by unfold State.advanceTima; split <;> simp
@[simp] theorem State.advanceTima_h (s : State) (n : Nat) : (s.advanceTima n).h = s.h := by unfold State.advanceTima; split <;> simp
@[simp] theorem State.advanceTima_l (s : State) (n : Nat) : (s.advanceTima n).l = s.l := by unfold State.advanceTima; split <;> simp
@[simp] theorem State.advanceTima_sp (s : State) (n : Nat) : (s.advanceTima n).sp = s.sp := by unfold State.advanceTima; split <;> simp
@[simp] theorem State.advanceTima_pc (s : State) (n : Nat) : (s.advanceTima n).pc = s.pc := by unfold State.advanceTima; split <;> simp
@[simp] theorem State.advanceTima_ime (s : State) (n : Nat) : (s.advanceTima n).ime = s.ime := by unfold State.advanceTima; split <;> simp
@[simp] theorem State.advanceTima_eiPending (s : State) (n : Nat) : (s.advanceTima n).eiPending = s.eiPending := by unfold State.advanceTima; split <;> simp
@[simp] theorem State.advanceTima_halted (s : State) (n : Nat) : (s.advanceTima n).halted = s.halted := by unfold State.advanceTima; split <;> simp
@[simp] theorem State.advanceTima_haltBug (s : State) (n : Nat) : (s.advanceTima n).haltBug = s.haltBug := by unfold State.advanceTima; split <;> simp
@[simp] theorem State.advanceTima_divCounter (s : State) (n : Nat) : (s.advanceTima n).divCounter = s.divCounter := by unfold State.advanceTima; split <;> simp
@[simp] theorem State.advanceTima_div (s : State) (n : Nat) : (s.advanceTima n).div = s.div := by unfold State.advanceTima; split <;> simp
@[simp] theorem State.advanceTima_tma (s : State) (n : Nat) : (s.advanceTima n).tma = s.tma := by unfold State.advanceTima; split <;> simp
@[simp] theorem State.advanceTima_tac (s : State) (n : Nat) : (s.advanceTima n).tac = s.tac := by unfold State.advanceTima; split <;> simp
@[simp] theorem State.advanceTima_ie (s : State) (n : Nat) : (s.advanceTima n).ie = s.ie := by unfold State.advanceTima; split <;> simp
@[simp] theorem State.advanceTima_mem (s : State) (n : Nat) : (s.advanceTima n).mem = s.mem := by unfold State.advanceTima; split <;> simp
@[simp] theorem State.advanceTima_runState (s : State) (n : Nat) : (s.advanceTima n).runState = s.runState := by unfold State.advanceTima; split <;> simp
@[simp] theorem State.advanceTima_cycles (s : State) (n : Nat) : (s.advanceTima n).cycles = s.cycles := by unfold State.advanceTima; split <;> simp
@[simp] theorem State.advanceTima_cfg (s : State) (n : Nat) : (s.advanceTima n).cfg = s.cfg := by unfold State.advanceTima; split <;> simp
@[simp] theorem State.advanceTima_env (s : State) (n : Nat) : (s.advanceTima n).env = s.env := by unfold State.advanceTima; split <;> simp

/-! #### `State.timerAdvance` -/

@[simp] theorem State.timerAdvance_a (s : State) (n : Nat) : (s.timerAdvance n).a = s.a := by simp [State.timerAdvance]
@[simp] theorem State.timerAdvance_f (s : State) (n : Nat) : (s.timerAdvance n).f = s.f := by simp [State.timerAdvance]
@[simp] theorem State.timerAdvance_b (s : State) (n : Nat) : (s.timerAdvance n).b = s.b := by simp [State.timerAdvance]
@[simp] theorem State.timerAdvance_c (s : State) (n : Nat) : (s.timerAdvance n).c = s.c := by simp [State.timerAdvance]
@[simp] theorem State.timerAdvance_d (s : State) (n : Nat) : (s.timerAdvance n).d = s.d := by simp [State.timerAdvance]
@[simp] theorem State.timerAdvance_e (s : State) (n : Nat) : (s.timerAdvance n).e = s.e := by simp [State.timerAdvance]
@[simp] theorem State.timerAdvance_h (s : State) (n : Nat) : (s.timerAdvance n).h = s.h := by simp [State.timerAdvance]
@[simp] theorem State.timerAdvance_l (s : State) (n : Nat) : (s.timerAdvance n).l = s.l := by simp [State.timerAdvance]
@[simp] theorem State.timerAdvance_sp (s : State) (n : Nat) : (s.timerAdvance n).sp = s.sp := by simp [State.timerAdvance]
@[simp] theorem State.timerAdvance_pc (s : State) (n : Nat) : (s.timerAdvance n).pc = s.pc := by simp [State.timerAdvance]
@[simp] theorem State.timerAdvance_ime (s : State) (n : Nat) : (s.timerAdvance n).ime = s.ime := by simp [State.timerAdvance]
@[simp] theorem State.timerAdvance_eiPending (s : State) (n : Nat) : (s.timerAdvance n).eiPending = s.eiPending := by simp [State.timerAdvance]
@[simp] theorem State.timerAdvance_halted (s : State) (n : Nat) : (s.timerAdvance n).halted = s.halted := by simp [State.timerAdvance]
@[simp] theorem State.timerAdvance_haltBug (s : State) (n : Nat) : (s.timerAdvance n).haltBug = s.haltBug := by simp [State.timerAdvance]
@[simp] theorem State.timerAdvance_divCounter (s : State) (n : Nat) : (s.timerAdvance n).divCounter = (s.divCounter + n) % 64 := by simp [State.timerAdvance]
@[simp] theorem State.timerAdvance_div (s : State) (n : Nat) : (s.timerAdvance n).div = s.div + BitVec.ofNat 8 ((s.divCounter + n) / 64) := by simp [State.timerAdvance]
@[simp] theorem State.timerAdvance_tma (s : State) (n : Nat) : (s.timerAdvance n).tma = s.tma := by simp [State.timerAdvance]
@[simp] theorem State.timerAdvance_tac (s : State) (n : Nat) : (s.timerAdvance n).tac = s.tac := by simp [State.timerAdvance]
@[simp] theorem State.timerAdvance_ie (s : State) (n : Nat) : (s.timerAdvance n).ie = s.ie := by simp [State.timerAdvance]
@[simp] theorem State.timerAdvance_mem (s : State) (n : Nat) : (s.timerAdvance n).mem = s.mem := by simp [State.timerAdvance]
@[simp] theorem State.timerAdvance_runState (s : State) (n : Nat) : (s.timerAdvance n).runState = s.runState := by simp [State.timerAdvance]
@[simp] theorem State.timerAdvance_cycles (s : State) (n : Nat) : (s.timerAdvance n).cycles = s.cycles := by simp [State.timerAdvance]
@[simp] theorem State.timerAdvance_cfg (s : State) (n : Nat) : (s.timerAdvance n).cfg = s.cfg := by simp [State.timerAdvance]
@[simp] theorem State.timerAdvance_env (s : State) (n : Nat) : (s.timerAdvance n).env = s.env := by simp [State.timerAdvance]
/-! #### Reading registers back -/

theorem State.reg8_setReg8 (s : State) (r q : Reg8) (v : Byte) :
    (s.setReg8 r v).reg8 q = if q = r then v else s.reg8 q := by
  cases r <;> cases q <;> rfl

@[simp] theorem State.reg8_setReg8_self (s : State) (r : Reg8) (v : Byte) : (s.setReg8 r v).reg8 r = v := by
  cases r <;> rfl

@[simp] theorem State.reg8_fetched (s : State) (n : Nat) (r : Reg8) : (s.fetched n).reg8 r = s.reg8 r := by
  cases r <;> rfl

@[simp] theorem State.reg8_spend (s : State) (op table : Nat) (taken : Bool) (r : Reg8) :
    (s.spend op table taken).reg8 r = s.reg8 r := by
  cases r <;> rfl

@[simp] theorem State.reg8_setFlags (s : State) (fl : Flags) (r : Reg8) : (s.setFlags fl).reg8 r = s.reg8 r := by
  cases r <;> rfl

@[simp] theorem State.reg8_memWrite (s : State) (addr : Word) (v : Byte) (r : Reg8) :
    (s.memWrite addr v).reg8 r = s.reg8 r := by
  cases r <;> simp [State.reg8]

/-- The word made of a word's two bytes is that word (R7, R22). -/
@[simp] theorem wordOf_hi_lo (v : Word) : wordOf (hiByte v) (loByte v) = v := by
  unfold wordOf hiByte loByte
  ext i hi
  simp only [BitVec.getElem_append, BitVec.getElem_extractLsb']
  split <;> simp_all

@[simp] theorem hiByte_wordOf (hi lo : Byte) : hiByte (wordOf hi lo) = hi := by
  unfold wordOf hiByte
  ext i h
  rw [BitVec.getElem_extractLsb', BitVec.getLsbD_append]
  simp [BitVec.getLsbD_eq_getElem, h]

@[simp] theorem loByte_wordOf (hi lo : Byte) : loByte (wordOf hi lo) = lo := by
  unfold wordOf loByte
  ext i h
  rw [BitVec.getElem_extractLsb', BitVec.getLsbD_append]
  simp [h, BitVec.getLsbD_eq_getElem]

@[simp] theorem State.reg16_setReg16_self (s : State) (p : Reg16) (v : Word) :
    (s.setReg16 p v).reg16 p = v := by
  cases p <;> simp [State.setReg16, State.reg16, State.bc, State.de, State.hl, State.setHl]

@[simp] theorem State.hl_setHl (s : State) (v : Word) : (s.setHl v).hl = v := by
  simp [State.setHl, State.hl]

/-- The four flags read back from the byte `setFlags` leaves (R25). -/
@[simp] theorem State.flags_setFlags (s : State) (fl : Flags) : (s.setFlags fl).flags = fl := by
  obtain ⟨z, n, h, c⟩ := fl
  cases z <;> cases n <;> cases h <;> cases c <;>
    simp [State.flags, State.setFlags, Flags.ofByte, Flags.toByte]

end Sys2Proof.Machine
end

