-- ==== Sys2Proof/Laws/Memory.lean ====
section
/-!
SUPPORT. The laws of memory and of the bus: what a write leaves at every address, and that it keeps memory's
canonical form. Callers cite these and unfold neither `Memory.write` nor `State.memWrite`.
-/
namespace Sys2Proof.Machine

/-! ### The list of bytes -/

/-- What is written at a backing address is read back there. -/
theorem Memory.read_write_self (m : Memory) (h : m.Pairwise (fun x y => x.1 < y.1)) (a : Nat) (v : Byte) :
    (m.write a v).read a = v := by
  induction m with
  | nil => simp only [Memory.write]; split <;> simp_all [Memory.read]
  | cons c m ih =>
    obtain ⟨k, w⟩ := c
    rw [List.pairwise_cons] at h
    have hk : ∀ n : Memory, (∀ c ∈ n, k < c.1) → a ≤ k → n.read a = unlistedByte a := by
      intro n hn hle
      induction n with
      | nil => rfl
      | cons d n ihn =>
        have := hn d (by simp)
        rw [show Memory.read (d :: n) a = if d.1 = a then d.2 else Memory.read n a from rfl, if_neg (by omega)]
        exact ihn (fun c hc => hn c (by simp [hc]))
    simp only [Memory.write]
    split
    · rename_i hlt
      split
      · rename_i hv
        rw [show Memory.read ((k, w) :: m) a = if k = a then w else Memory.read m a from rfl, if_neg (by omega),
          hk m h.1 (by omega), hv]
      · simp [Memory.read]
    · split
      · rename_i heq
        split
        · rename_i hv; rw [hk m h.1 (by omega), hv]
        · simp [Memory.read]
      · rename_i hne
        simp only [Memory.read]
        rw [if_neg (fun e => hne e.symm), ih h.2]

/-- A write leaves every other backing address as it was. -/
theorem Memory.read_write_other (m : Memory) (a b : Nat) (v : Byte) (hab : b ≠ a) :
    (m.write a v).read b = m.read b := by
  induction m with
  | nil => simp only [Memory.write]; split <;> simp [Memory.read, Ne.symm hab]
  | cons c m ih =>
    obtain ⟨k, w⟩ := c
    simp only [Memory.write]
    split
    · split <;> simp [Memory.read, Ne.symm hab]
    · split
      · rename_i heq
        subst heq
        split <;> simp [Memory.read, Ne.symm hab]
      · simp only [Memory.read, ih]

/-- A written list holds the new entry and old ones only. -/
theorem Memory.mem_write (m : Memory) (a : Nat) (v : Byte) (c : Host.Cell) (hc : c ∈ m.write a v) :
    (c = (a, v) ∧ v ≠ unlistedByte a) ∨ c ∈ m := by
  induction m with
  | nil => simp only [Memory.write] at hc; split at hc <;> simp_all
  | cons d m ih =>
    obtain ⟨k, w⟩ := d
    simp only [Memory.write] at hc
    split at hc
    · split at hc
      · exact Or.inr hc
      · rcases List.mem_cons.1 hc with h | h
        · exact Or.inl ⟨h, ‹_›⟩
        · exact Or.inr h
    · split at hc
      · split at hc
        · exact Or.inr (by simp [hc])
        · rcases List.mem_cons.1 hc with h | h
          · exact Or.inl ⟨h, ‹_›⟩
          · exact Or.inr (by simp [h])
      · rcases List.mem_cons.1 hc with h | h
        · exact Or.inr (by simp [h])
        · rcases ih h with h | h
          · exact Or.inl h
          · exact Or.inr (by simp [h])

/-- A write keeps the addresses strictly rising. -/
theorem Memory.pairwise_write (m : Memory) (h : m.Pairwise (fun x y => x.1 < y.1)) (a : Nat) (v : Byte) :
    (m.write a v).Pairwise (fun x y => x.1 < y.1) := by
  induction m with
  | nil => simp only [Memory.write]; split <;> simp
  | cons d m ih =>
    obtain ⟨k, w⟩ := d
    have h' := h
    rw [List.pairwise_cons] at h'
    simp only [Memory.write]
    split
    · rename_i hlt
      split
      · exact h
      · refine List.pairwise_cons.2 ⟨fun c hc => ?_, h⟩
        rcases List.mem_cons.1 hc with e | e
        · subst e; exact hlt
        · exact Nat.lt_trans hlt (h'.1 c e)
    · split
      · rename_i heq
        split
        · exact h'.2
        · subst heq; exact List.pairwise_cons.2 ⟨h'.1, h'.2⟩
      · rename_i hge hne
        refine List.pairwise_cons.2 ⟨fun c hc => ?_, ih h'.2⟩
        rcases Memory.mem_write m a v c hc with ⟨e, -⟩ | e
        · subst e; simp only; omega
        · exact h'.1 c e

/-- Every memory operation keeps the canonical form: `write` is the only one. -/
theorem Memory.wf_write (m : Memory) (h : m.wf) (a : Nat) (v : Byte) (ha : isCellKey a = true) :
    (m.write a v).wf := by
  refine ⟨Memory.pairwise_write m h.1 a v, fun c hc => ?_⟩
  rcases Memory.mem_write m a v c hc with ⟨e, hv⟩ | e
  · subst e; exact ⟨ha, hv⟩
  · exact h.2 c e

theorem Memory.wf_nil : Memory.wf [] := ⟨List.Pairwise.nil, by simp⟩

/-! ### Homes -/

/-- The echo region's addresses (R60). -/
theorem regionOf_eq_echo (addr : Word) : regionOf addr = .echo ↔ 0xE000 ≤ addr.toNat ∧ addr.toNat ≤ 0xFDFF := by
  simp only [regionOf]
  generalize addr.toNat = n
  repeat' split
  all_goals simp only [reduceCtorEq, false_iff, true_iff]
  all_goals omega

/-- The ROM addresses (R60, R65). -/
theorem isRom_eq_true (addr : Word) : isRom addr = true ↔ addr.toNat ≤ 0x7FFF := by
  rw [isRom, decide_eq_true_iff]
  simp only [regionOf]
  generalize addr.toNat = n
  repeat' split
  all_goals simp only [reduceCtorEq, false_iff, true_iff, true_or, or_true, or_self]
  all_goals omega

/-- The backing address as a number (R63). -/
theorem backing_toNat (addr : Word) : (backing addr).toNat =
    if 0xE000 ≤ addr.toNat ∧ addr.toNat ≤ 0xFDFF then addr.toNat - 0x2000 else addr.toNat := by
  unfold backing
  by_cases h : regionOf addr = .echo
  · have := (regionOf_eq_echo addr).1 h
    rw [if_pos h, if_pos this]; bv_omega
  · rw [if_neg h, if_neg (fun e => h ((regionOf_eq_echo addr).2 e))]

/-- The backing address of an echo address is no echo address, so `backing` is idempotent (R63). -/
theorem backing_not_echo (addr : Word) : regionOf (backing addr) ≠ .echo := by
  rw [Ne, regionOf_eq_echo, backing_toNat]
  split <;> omega

@[simp] theorem backing_backing (addr : Word) : backing (backing addr) = backing addr := by
  rw [backing, if_neg (backing_not_echo addr)]

/-- A home determines the backing address (R64). -/
theorem homeOf_eq_iff (x y : Word) : homeOf x = homeOf y ↔ backing x = backing y := by
  constructor
  · intro h
    apply BitVec.eq_of_toNat_eq
    simp only [homeOf] at h
    generalize hx : (backing x).toNat = p at h ⊢
    generalize hy : (backing y).toNat = q at h ⊢
    clear hx hy x y
    revert h
    repeat' split
    all_goals simp only [reduceCtorEq, Home.cell.injEq, forall_const, false_implies, imp_self]
    all_goals omega
  · intro h; simp only [homeOf, h]

/-- Above the echo an address shares its byte with no other (R64). -/
theorem backing_eq_iff_of_high {x : Word} (hx : 0xFE00 ≤ x.toNat) (a : Word) : backing a = backing x ↔ a = x := by
  refine ⟨fun e => ?_, fun e => by rw [e]⟩
  have e := congrArg BitVec.toNat e
  rw [backing_toNat, backing_toNat] at e
  apply BitVec.eq_of_toNat_eq
  split at e <;> split at e <;> omega

/-- The byte of an address above the echo has that address alone. -/
theorem homeOf_eq_iff_of_high {x : Word} (hx : 0xFE00 ≤ x.toNat) (a : Word) : homeOf a = homeOf x ↔ a = x := by
  rw [homeOf_eq_iff, backing_eq_iff_of_high hx]

@[simp] theorem homeOf_div : homeOf 0xFF04#16 = .div := by decide
@[simp] theorem homeOf_tima : homeOf 0xFF05#16 = .tima := by decide
@[simp] theorem homeOf_tma : homeOf 0xFF06#16 = .tma := by decide
@[simp] theorem homeOf_tac : homeOf 0xFF07#16 = .tac := by decide
@[simp] theorem homeOf_iflag : homeOf 0xFF0F#16 = .iflag := by decide
@[simp] theorem homeOf_ie : homeOf 0xFFFF#16 = .ie := by decide

/-- The address of a byte that memory keeps is a key memory may hold. -/
theorem isCellKey_of_homeOf {addr : Word} {k : Nat} (h : homeOf addr = .cell k) : isCellKey k = true := by
  have hk : (backing addr).toNat = k := by
    simp only [homeOf] at h
    repeat' split at h
    all_goals simp_all
  subst hk
  have hb : BitVec.ofNat 16 (backing addr).toNat = backing addr := by simp
  rw [isCellKey, hb, Bool.and_eq_true, decide_eq_true_eq, decide_eq_true_eq]
  refine ⟨(backing addr).isLt, ?_⟩
  rw [← h, homeOf_eq_iff, backing_backing]

/-! ### The bus -/

/-- What `RawWrite` leaves at every address: the byte at the addresses that name the same backing byte, nothing
else (R62, R63, R64). -/
theorem State.rawRead_rawWrite (s : State) (h : Memory.wf s.mem) (addr b : Word) (v : Byte) :
    (s.rawWrite addr v).rawRead b = if backing b = backing addr then v else s.rawRead b := by
  simp only [← homeOf_eq_iff]
  unfold State.rawRead State.rawWrite
  cases ha : homeOf addr <;> cases hb : homeOf b <;>
    simp only [reduceCtorEq, if_true, if_false, Home.cell.injEq]
  rename_i k j
  split
  · rename_i e; subst e; exact Memory.read_write_self _ h.1 _ _
  · rename_i e; exact Memory.read_write_other _ _ _ _ e

/-- `RawWrite` keeps memory's canonical form. -/
theorem State.wf_rawWrite (s : State) (h : Memory.wf s.mem) (addr : Word) (v : Byte) :
    Memory.wf (s.rawWrite addr v).mem := by
  unfold State.rawWrite
  cases ha : homeOf addr with
  | cell k => exact Memory.wf_write _ h _ _ (isCellKey_of_homeOf ha)
  | _ => exact h

/-- An update that leaves the bus registers and memory as they are leaves every byte as it is. -/
theorem State.memRead_congr {s t : State} (h1 : t.div = s.div) (h2 : t.tima = s.tima) (h3 : t.tma = s.tma)
    (h4 : t.tac = s.tac) (h5 : t.iflag = s.iflag) (h6 : t.ie = s.ie) (h7 : t.mem = s.mem) (addr : Word) :
    t.memRead addr = s.memRead addr := by
  simp only [State.memRead, State.rawRead, h1, h2, h3, h4, h5, h6, h7]

/-- A store outside ROM and not to DIV is a back-door write (R62). -/
theorem State.memWrite_eq_rawWrite (s : State) {addr : Word} (v : Byte) (hr : isRom addr = false)
    (hd : addr ≠ 0xFF04) : s.memWrite addr v = s.rawWrite addr v := by
  unfold State.memWrite
  rw [hr, decide_eq_false hd]
  rfl

/-- What a store leaves at every address (R62): nothing changed for a dropped store to ROM, DIV cleared for a
resetting store to DIV, and otherwise the byte at the addresses that name the same backing byte. -/
theorem State.memRead_memWrite (s : State) (h : Memory.wf s.mem) (addr b : Word) (v : Byte) :
    (s.memWrite addr v).memRead b =
      if isRom addr = true ∧ s.cfg.romWritable = false then s.memRead b
      else if addr = 0xFF04 ∧ s.cfg.divWriteResets = true then (if b = 0xFF04 then 0 else s.memRead b)
      else if backing b = backing addr then v else s.memRead b := by
  unfold State.memWrite
  by_cases h1 : isRom addr = true ∧ s.cfg.romWritable = false
  · rw [if_pos (by simp [h1]), if_pos h1]
  · rw [if_neg (by simpa using h1), if_neg h1]
    by_cases h2 : addr = 0xFF04 ∧ s.cfg.divWriteResets = true
    · rw [if_pos (by simp [h2]), if_pos h2]
      have hb : homeOf b = .div ↔ b = 0xFF04 := homeOf_eq_iff_of_high (x := 0xFF04) (by decide) b
      unfold State.memRead State.rawRead
      split
      · rename_i e; rw [if_pos (hb.1 e)]
      all_goals rename_i e; rw [if_neg (fun e' => by simp [hb.2 e'] at e)]
    · rw [if_neg (by simpa using h2), if_neg h2]
      exact State.rawRead_rawWrite s h addr b v

/-- A store keeps memory's canonical form. -/
theorem State.wf_memWrite (s : State) (h : Memory.wf s.mem) (addr : Word) (v : Byte) :
    Memory.wf (s.memWrite addr v).mem := by
  unfold State.memWrite
  split
  · exact h
  · split
    · exact h
    · exact State.wf_rawWrite s h addr v

/-- The accumulator of DIV after a store: cleared by a resetting store to DIV, else as it was (R62, R306). -/
theorem State.divCounter_memWrite (s : State) (addr : Word) (v : Byte) :
    (s.memWrite addr v).divCounter =
      if addr = 0xFF04 ∧ s.cfg.divWriteResets = true then 0 else s.divCounter := by
  unfold State.memWrite
  split
  · rename_i h
    rw [if_neg]
    rintro ⟨rfl, -⟩
    have hr : isRom 0xFF04 = false := by decide
    rw [hr] at h; exact absurd h (by simp)
  · split
    · rename_i h; rw [if_pos (by simpa using h)]
    · rename_i h; rw [if_neg (by simpa using h), State.rawWrite_divCounter]

end Sys2Proof.Machine
end

