-- ==== Sys2Proof/Laws/Stated.lean ====
section
/-!
SUPPORT. The vocabulary of the statements in terms of the model's operations: each definition of
`Sys2Proof.Stated` that a statement uses for a frame, PC, cycles or a store, and what establishes it.
-/
open Sys2Proof Sys2Proof.Machine

namespace Sys2Proof.Machine

/-! ### Reading the bus after an update that is no store -/

@[simp] theorem State.memRead_fetched (s : State) (n : Nat) (a : Word) : (s.fetched n).memRead a = s.memRead a := rfl
@[simp] theorem State.memRead_spend (s : State) (op n : Nat) (taken : Bool) (a : Word) :
    (s.spend op n taken).memRead a = s.memRead a := rfl
@[simp] theorem State.memRead_setFlags (s : State) (fl : Flags) (a : Word) :
    (s.setFlags fl).memRead a = s.memRead a := rfl
@[simp] theorem State.memRead_setHl (s : State) (v : Word) (a : Word) : (s.setHl v).memRead a = s.memRead a := rfl
@[simp] theorem State.memRead_setReg8 (s : State) (r : Reg8) (v : Byte) (a : Word) :
    (s.setReg8 r v).memRead a = s.memRead a := by cases r <;> rfl
@[simp] theorem State.memRead_setReg16 (s : State) (p : Reg16) (v : Word) (a : Word) :
    (s.setReg16 p v).memRead a = s.memRead a := by cases p <;> rfl
@[simp] theorem State.memRead_setStackReg (s : State) (p : StackReg) (v : Word) (a : Word) :
    (s.setStackReg p v).memRead a = s.memRead a := by cases p <;> rfl
@[simp] theorem State.memRead_dropTwo (s : State) (a : Word) : s.dropTwo.memRead a = s.memRead a := rfl
@[simp] theorem State.memRead_popPc (s : State) (a : Word) : s.popPc.memRead a = s.memRead a := rfl
@[simp] theorem State.memRead_wake (s : State) (a : Word) : s.wake.memRead a = s.memRead a := by
  unfold State.wake; split <;> rfl

@[simp] theorem State.memRead_callTo (s : State) (v : Word) (a : Word) :
    (s.callTo v).memRead a = (s.push16 s.pc).memRead a := by
  simp only [State.callTo, State.memRead, State.rawRead]
@[simp] theorem State.divCounter_callTo (s : State) (v : Word) :
    (s.callTo v).divCounter = (s.push16 s.pc).divCounter := by
  simp only [State.callTo]

/-! ### The cycle parameter is read the same after every update that keeps `cfg` -/

theorem State.cyclesOf_congr {s t : State} (h : t.cfg = s.cfg) (op n : Nat) (taken : Bool) :
    t.cyclesOf op taken n = s.cyclesOf op taken n := by
  simp only [State.cyclesOf, h]

@[simp] theorem State.cyclesOf_fetched (s : State) (k op n : Nat) (taken : Bool) :
    (s.fetched k).cyclesOf op taken n = s.cyclesOf op taken n := rfl
@[simp] theorem State.cyclesOf_setFlags (s : State) (fl : Flags) (op n : Nat) (taken : Bool) :
    (s.setFlags fl).cyclesOf op taken n = s.cyclesOf op taken n := rfl
@[simp] theorem State.cyclesOf_setHl (s : State) (v : Word) (op n : Nat) (taken : Bool) :
    (s.setHl v).cyclesOf op taken n = s.cyclesOf op taken n := rfl
@[simp] theorem State.cyclesOf_setReg8 (s : State) (r : Reg8) (v : Byte) (op n : Nat) (taken : Bool) :
    (s.setReg8 r v).cyclesOf op taken n = s.cyclesOf op taken n := State.cyclesOf_congr (by simp) ..
@[simp] theorem State.cyclesOf_setReg16 (s : State) (p : Reg16) (v : Word) (op n : Nat) (taken : Bool) :
    (s.setReg16 p v).cyclesOf op taken n = s.cyclesOf op taken n := State.cyclesOf_congr (by simp) ..
@[simp] theorem State.cyclesOf_setStackReg (s : State) (p : StackReg) (v : Word) (op n : Nat) (taken : Bool) :
    (s.setStackReg p v).cyclesOf op taken n = s.cyclesOf op taken n := State.cyclesOf_congr (by simp) ..
@[simp] theorem State.cyclesOf_dropTwo (s : State) (op n : Nat) (taken : Bool) :
    s.dropTwo.cyclesOf op taken n = s.cyclesOf op taken n := rfl
@[simp] theorem State.cyclesOf_popPc (s : State) (op n : Nat) (taken : Bool) :
    s.popPc.cyclesOf op taken n = s.cyclesOf op taken n := rfl
@[simp] theorem State.cyclesOf_relative (s : State) (e : Byte) (op n : Nat) (taken : Bool) :
    (s.relative e).cyclesOf op taken n = s.cyclesOf op taken n := rfl
@[simp] theorem State.cyclesOf_haltNow (s : State) (op n : Nat) (taken : Bool) :
    s.haltNow.cyclesOf op taken n = s.cyclesOf op taken n := State.cyclesOf_congr (by simp) ..
@[simp] theorem State.cyclesOf_memWrite (s : State) (a : Word) (v : Byte) (op n : Nat) (taken : Bool) :
    (s.memWrite a v).cyclesOf op taken n = s.cyclesOf op taken n := State.cyclesOf_congr (by simp) ..
@[simp] theorem State.cyclesOf_writePlace (s : State) (x : Place) (v : Byte) (op n : Nat) (taken : Bool) :
    (s.writePlace x v).cyclesOf op taken n = s.cyclesOf op taken n := State.cyclesOf_congr (by simp) ..
@[simp] theorem State.cyclesOf_push16 (s : State) (v : Word) (op n : Nat) (taken : Bool) :
    (s.push16 v).cyclesOf op taken n = s.cyclesOf op taken n := State.cyclesOf_congr (by simp) ..
@[simp] theorem State.cyclesOf_callTo (s : State) (v : Word) (op n : Nat) (taken : Bool) :
    (s.callTo v).cyclesOf op taken n = s.cyclesOf op taken n := State.cyclesOf_congr (by simp) ..

end Sys2Proof.Machine

namespace Sys2Proof.Stated

theorem cyclesGiven_eq (s : State) (op : Nat) (taken : Bool) (n : Nat) :
    cyclesGiven s op taken n = s.cyclesOf op taken n := by
  unfold cyclesGiven State.cyclesOf
  induction s.cfg.cycleOverrides with
  | nil => rfl
  | cons o l ih =>
    by_cases h : o.op = op ∧ o.taken = taken
    · simp [h]
    · have hb : (o.op == op && o.taken == taken) = false := by
        rw [Bool.and_eq_false_iff, beq_eq_false_iff_ne, beq_eq_false_iff_ne]
        by_contra hc
        push Not at hc
        exact h hc
      rw [List.filter_cons, if_neg (by simpa using h), ih, List.find?_cons, hb]

theorem pcPast_eq (s : State) (n : Nat) : pcPast s n = s.pcAfter n := by
  unfold pcPast State.pcAfter
  split <;> rfl

theorem low_eq (w : Word) : low w = loByte w := by
  unfold low loByte
  ext i h
  simp

theorem high_eq (w : Word) : high w = hiByte w := by
  unfold high hiByte
  ext i h
  simp

theorem highPage_eq (n : Byte) : (0xFF00 : Word) + n.setWidth 16 = highPage n := by
  have h : ∀ n : Byte, (0xFF00 : Word) + n.setWidth 16 = 0xFF#8 ++ n := by decide
  exact h n

theorem underEcho_eq (a : Word) : underEcho a = backing a := by
  unfold underEcho backing
  simp only [regionOf_eq_echo]

/-- Nothing stored: the six bus registers, memory and the accumulator of DIV are as they were. -/
theorem BusKept.intro {s t : State} (h1 : t.div = s.div) (h2 : t.tima = s.tima) (h3 : t.tma = s.tma)
    (h4 : t.tac = s.tac) (h5 : t.iflag = s.iflag) (h6 : t.ie = s.ie) (h7 : t.mem = s.mem)
    (h8 : t.divCounter = s.divCounter) : BusKept s t :=
  ⟨State.memRead_congr h1 h2 h3 h4 h5 h6 h7, h8⟩

theorem Ran.intro {s t : State} {op n : Nat} {taken : Bool} (h : t.cycles = s.cyclesOf op taken n)
    (h1 : t.haltBug = false) (h2 : t.ime = s.ime) (h3 : t.eiPending = s.eiPending) (h4 : t.halted = s.halted)
    (h5 : t.timaCounter = s.timaCounter) (h6 : t.runState = s.runState) (h7 : t.cfg = s.cfg)
    (h8 : t.env = s.env) : Ran s t op taken n :=
  ⟨by rw [cyclesGiven_eq, h], h1, h2, h3, h4, h5, h6, h7, h8⟩

/-- A store through the write path reads as the statements say. -/
theorem memRead_memWrite (s : State) (h : Memory.wf s.mem) (a : Word) (v : Byte) :
    (s.memWrite a v).memRead = busAfter s.cfg s.memRead a v := by
  funext b
  rw [State.memRead_memWrite s h]
  unfold busAfter
  simp only [isRom_eq_true, underEcho_eq]

theorem divCounter_memWrite (s : State) (a : Word) (v : Byte) :
    (s.memWrite a v).divCounter = divAfter s.cfg s.divCounter a := State.divCounter_memWrite s a v

/-- One store, into a state `x` that has the bus of `s`. -/
theorem StoresByte.intro {s x t : State} (h : Memory.wf s.mem) {a : Word} {v : Byte}
    (hr : ∀ b, t.memRead b = (x.memWrite a v).memRead b) (hd : t.divCounter = (x.memWrite a v).divCounter)
    (hm : x.mem = s.mem) (hx : ∀ b, x.memRead b = s.memRead b) (hc : x.cfg = s.cfg)
    (hdc : x.divCounter = s.divCounter) : StoresByte s t a v := by
  refine ⟨fun b => ?_, ?_⟩
  · rw [hr, memRead_memWrite x (by rw [hm]; exact h), hc, funext hx]
  · rw [hd, divCounter_memWrite, hc, hdc]

/-- Two stores: into a state `x` with the bus of `s`, then into a state `y` with the bus the first store left. -/
theorem two_stores {s x y : State} (h : Memory.wf s.mem) (a a' : Word) (v w : Byte) (hm : x.mem = s.mem)
    (hx : x.memRead = s.memRead) (hc : x.cfg = s.cfg) (hd : x.divCounter = s.divCounter)
    (hm' : y.mem = (x.memWrite a v).mem) (hy : y.memRead = (x.memWrite a v).memRead) (hc' : y.cfg = s.cfg)
    (hd' : y.divCounter = (x.memWrite a v).divCounter) :
    (y.memWrite a' w).memRead = busAfter s.cfg (busAfter s.cfg s.memRead a v) a' w ∧
      (y.memWrite a' w).divCounter = divAfter s.cfg (divAfter s.cfg s.divCounter a) a' ∧
      Memory.wf (y.memWrite a' w).mem := by
  have hw : Memory.wf x.mem := by rw [hm]; exact h
  have hw' : Memory.wf y.mem := by rw [hm']; exact State.wf_memWrite x hw a v
  refine ⟨?_, ?_, State.wf_memWrite y hw' a' w⟩
  · rw [memRead_memWrite y hw', hy, memRead_memWrite x hw, hc, hc', hx]
  · rw [divCounter_memWrite, hd', divCounter_memWrite, hc, hc', hd]

/-- What `MemWrite(addr, 2, v)` leaves of the bus. -/
theorem memRead_memWrite16 (s : State) (h : Memory.wf s.mem) (a : Word) (v : Word) :
    (s.memWrite16 a v).memRead = busAfter s.cfg (busAfter s.cfg s.memRead a (loByte v)) (a + 1) (hiByte v) ∧
      (s.memWrite16 a v).divCounter = divAfter s.cfg (divAfter s.cfg s.divCounter a) (a + 1) ∧
      Memory.wf (s.memWrite16 a v).mem :=
  two_stores h a (a + 1) (loByte v) (hiByte v) rfl rfl rfl rfl rfl rfl (by simp) rfl

/-- What `Push16` leaves of the bus, and the canonical form. -/
theorem memRead_push16 (s : State) (h : Memory.wf s.mem) (v : Word) :
    (s.push16 v).memRead =
        busAfter s.cfg (busAfter s.cfg s.memRead (s.sp - 1) (hiByte v)) (s.sp - 2) (loByte v) ∧
      (s.push16 v).divCounter = divAfter s.cfg (divAfter s.cfg s.divCounter (s.sp - 1)) (s.sp - 2) ∧
      Memory.wf (s.push16 v).mem := by
  have e : s.sp - 2 = s.sp - 1 - 1 := by bv_omega
  have k := two_stores (x := { s with sp := s.sp - 1 })
    (y := { State.memWrite { s with sp := s.sp - 1 } (s.sp - 1) (hiByte v) with sp := s.sp - 1 - 1 })
    h (s.sp - 1) (s.sp - 1 - 1) (hiByte v) (loByte v) rfl rfl rfl rfl rfl rfl (by simp) rfl
  unfold State.push16
  simp only [State.memWrite_sp, e]
  exact k

/-- A push, into a state `x` that has the bus and SP of `s`. -/
theorem Pushes.intro {s x t : State} (h : Memory.wf s.mem) {v : Word} {hi lo : Byte} (hhi : hi = hiByte v)
    (hlo : lo = loByte v) (hr : ∀ b, t.memRead b = (x.push16 v).memRead b)
    (hd : t.divCounter = (x.push16 v).divCounter) (hs : t.sp = (x.push16 v).sp) (hm : x.mem = s.mem)
    (hx : ∀ b, x.memRead b = s.memRead b) (hc : x.cfg = s.cfg) (hdc : x.divCounter = s.divCounter)
    (hsp : x.sp = s.sp) : Pushes s t hi lo := by
  obtain ⟨h1, h2, -⟩ := memRead_push16 x (by rw [hm]; exact h) v
  refine ⟨?_, fun b => ?_, ?_⟩
  · rw [hs, State.push16_sp, hsp]; bv_omega
  · rw [hr, h1, hc, hsp, funext hx, hhi, hlo]
  · rw [hd, h2, hc, hsp, hdc]

/-- Registers are kept when each is. -/
theorem RegsKept.intro {s t : State} (ha : t.a = s.a) (hb : t.b = s.b) (hc : t.c = s.c) (hd : t.d = s.d)
    (he : t.e = s.e) (hh : t.h = s.h) (hl : t.l = s.l) (except : List Reg8) : RegsKept except s t := by
  intro r _
  cases r <;> assumption

/-- An operand written back, into a state `x` with the registers and the bus of `s`. -/
theorem WritesOperand.intro {s x t : State} {p : Place} {v : Byte} (hw : Memory.wf s.mem)
    (ht : ∀ r, t.reg8 r = (x.writePlace p v).reg8 r) (hr : ∀ b, t.memRead b = (x.writePlace p v).memRead b)
    (hd : t.divCounter = (x.writePlace p v).divCounter) (hm : x.mem = s.mem)
    (hx : ∀ b, x.memRead b = s.memRead b) (hc : x.cfg = s.cfg) (hdc : x.divCounter = s.divCounter)
    (hreg : ∀ r, x.reg8 r = s.reg8 r) : WritesOperand s t p v := by
  cases p with
  | reg r =>
    refine ⟨by rw [ht]; simp [State.writePlace], fun q hq => ?_, fun b => ?_, ?_⟩
    · rw [ht, ← hreg]
      simp only [List.mem_singleton] at hq
      simp [State.writePlace, State.reg8_setReg8, hq]
    · rw [hr, ← hx]; simp [State.writePlace]
    · rw [hd, ← hdc]; simp [State.writePlace]
  | memHL =>
    have hhl : x.hl = s.h ++ s.l := by
      have h1 := hreg .h
      have h2 := hreg .l
      simp only [State.reg8] at h1 h2
      rw [State.hl, wordOf, h1, h2]
    refine ⟨fun q hq => ?_, ?_⟩
    · rw [ht, ← hreg]; simp [State.writePlace]
    · exact StoresByte.intro (x := x) hw (by intro b; rw [hr, State.writePlace, hhl])
        (by rw [hd, State.writePlace, hhl]) hm hx hc hdc

/-- The flags that `setFlags` leaves, as the statements say them. -/
theorem FlagsAre.intro {s t : State} {fl : Flags} {z n h c : Bool} (hf : t.f = fl.toByte ||| (s.f &&& 0x0F))
    (hz : fl.z = z) (hn : fl.n = n) (hh : fl.h = h) (hc : fl.c = c) : FlagsAre s t z n h c := by
  subst hz hn hh hc
  obtain ⟨z, n, h, c⟩ := fl
  have hk : ∀ b : Byte, ((b ||| (s.f &&& 0x0F)) &&& 0x0F) = (b &&& 0x0F) ||| (s.f &&& 0x0F) := by
    intro b
    ext i hi
    simp only [BitVec.getElem_and, BitVec.getElem_or]
    cases b[i] <;> cases s.f[i] <;> cases (0x0F#8 : Byte)[i] <;> rfl
  unfold FlagsAre
  rw [hf]
  refine ⟨?_, ?_, ?_, ?_, ?_⟩
  case refine_5 => rw [hk]; cases z <;> cases n <;> cases h <;> cases c <;> simp [Flags.toByte]
  all_goals cases z <;> cases n <;> cases h <;> cases c <;> simp [Flags.toByte]

/-! ### The computations of the rules in integers -/

theorem and_low_nibble (b : Byte) : (b &&& 0xF).toNat = b.toNat % 16 := by
  have h : ∀ b : Byte, (b &&& 0xF).toNat = b.toNat % 16 := by decide
  exact h b

theorem loByte_toNat (w : Word) : (loByte w).toNat = w.toNat % 256 := by
  simp [loByte]

theorem and_low_twelve (w : Word) : (w &&& 0xFFF).toNat = w.toNat % 0x1000 := by
  rw [BitVec.toNat_and]
  exact Nat.and_two_pow_sub_one_eq_mod w.toNat 12

theorem halfAdd8_eq (a x : Byte) (c : Bool) :
    halfAdd8 a x c = decide (a.toNat % 16 + x.toNat % 16 + carryIn c > 0xF) := by
  rw [halfAdd8, and_low_nibble, and_low_nibble]

theorem halfSub8_eq (a x : Byte) (c : Bool) :
    halfSub8 a x c = decide (x.toNat % 16 + carryIn c > a.toNat % 16) := by
  rw [halfSub8, and_low_nibble, and_low_nibble]

theorem halfAdd16_eq (x y : Word) :
    halfAdd16 x y = decide (x.toNat % 0x1000 + y.toNat % 0x1000 > 0xFFF) := by
  rw [halfAdd16, and_low_twelve, and_low_twelve]

/-- Adding a sign-extended displacement (R105). -/
theorem add_sext16 (x : Word) (e : Byte) : x + sext16 e = BitVec.ofInt 16 (x.toNat + e.toInt) := by
  unfold sext16
  rw [BitVec.signExtend, BitVec.ofInt_add]
  simp

theorem condTrue_eq (s : State) (k : Cond) : condTrue s k = k.holds s.flags := by cases k <;> rfl

theorem operand_eq (s : State) (x : Place) : operand s x = s.readPlace x := by cases x <;> rfl

theorem source_eq (s : State) (x : Source) : source s x = s.readSource x := by cases x <;> rfl

end Sys2Proof.Stated
end

