-- ==== Sys2Proof/Laws/Decode.lean ====
section
/-!
SUPPORT. The decoder by its two maps: what an instruction that the maps name encodes to, and which instruction stands
at PC.
-/
open Sys2Proof Sys2Proof.Machine

namespace Sys2Proof

/-- A fact about every byte, from the 256 numerals. -/
theorem byte_forall {P : Byte → Prop} (h : ∀ n < 256, P (BitVec.ofNat 8 n)) (b : Byte) : P b := by
  have hb := h b.toNat b.isLt
  simpa using hb

set_option maxRecDepth 4000 in
/-- Every second byte names an entry of the CB map (R118), and that entry encodes to it. -/
theorem encode_cbInstr (op2 : Byte) : encode (cbInstr op2) = [0xCB, op2] := by
  revert op2
  decide

theorem lengthOf_cases (op : Byte) : lengthOf op = 1 ∨ lengthOf op = 2 ∨ lengthOf op = 3 := by
  revert op
  decide

/-- The base map's entry in row `hi`, column `lo`. -/
def Stated.entry (b1 : Byte) (nn : Word) (hi lo : Nat) : Instr := ((baseMap b1 nn).getD hi []).getD lo .cbPrefix

theorem entry_word (b1 : Byte) (nn nn' : Word) (hi lo : Nat) (h : hi < 16) (l : lo < 16)
    (k : lengthOf (BitVec.ofNat 8 (16 * hi + lo)) ≠ 3) : Stated.entry b1 nn hi lo = Stated.entry b1 nn' hi lo := by
  interval_cases hi
  all_goals first | rfl | skip
  all_goals interval_cases lo <;> first | exact absurd rfl k | rfl

theorem entry_byte (b1 b1' : Byte) (nn : Word) (hi lo : Nat) (h : hi < 16) (l : lo < 16)
    (k : lengthOf (BitVec.ofNat 8 (16 * hi + lo)) ≠ 2) : Stated.entry b1 nn hi lo = Stated.entry b1' nn hi lo := by
  interval_cases hi
  all_goals first | rfl | skip
  all_goals interval_cases lo <;> first | exact absurd rfl k | rfl

theorem encode_entry (b1 b2 : Byte) (hi lo : Nat) (h : hi < 16) (l : lo < 16) (k : ¬ (hi = 12 ∧ lo = 11)) :
    encode (Stated.entry b1 (wordOf b2 b1) hi lo) =
      [BitVec.ofNat 8 (16 * hi + lo), b1, b2].take (lengthOf (BitVec.ofNat 8 (16 * hi + lo))) := by
  have hl : loByte (wordOf b2 b1) = b1 := loByte_wordOf b2 b1
  have hh : hiByte (wordOf b2 b1) = b2 := hiByte_wordOf b2 b1
  generalize wordOf b2 b1 = nn at hl hh
  subst hl hh
  interval_cases hi
  all_goals interval_cases lo
  all_goals first | rfl | exact absurd ⟨rfl, rfl⟩ k

/-- Every first byte but the prefix names an entry of the base map, and that entry encodes to the byte and the operand
bytes its length covers. -/
theorem encode_decodeOp (op b1 b2 : Byte) (h : op ≠ 0xCB) :
    encode (decodeOp op b1 b2) = [op, b1, b2].take (lengthOf op) := by
  have hop : BitVec.ofNat 8 (16 * (op.toNat / 16) + op.toNat % 16) = op := by
    rw [Nat.div_add_mod]; simp
  have key := encode_entry b1 b2 (op.toNat / 16) (op.toNat % 16) (by have := op.isLt; omega) (by omega) (by
    rintro ⟨x, y⟩
    exact h (by rw [← hop, x, y]; rfl))
  rw [hop] at key
  simpa only [decodeOp, if_neg h, Stated.entry] using key

/-- No fetch names the prefix row: after the prefix byte it names an entry of the CB map. -/
theorem decodeOp_ne_cbPrefix (op b1 b2 : Byte) : decodeOp op b1 b2 ≠ .cbPrefix := by
  by_cases h : op = 0xCB
  · subst h
    intro e
    have := encode_cbInstr b1
    have e2 : decodeOp 0xCB b1 b2 = cbInstr b1 := rfl
    rw [← e2, e] at this
    cases this
  · intro e
    have := encode_decodeOp op b1 b2 h
    rw [e] at this
    have h2 : op = 0xCB := by
      have := congrArg (fun l => l.headD 0) this
      have k := lengthOf_cases op
      rcases k with k | k | k <;> simp [k] at this <;> exact this.symm
    exact h h2

/-- An instruction looks only at the bytes that its length covers. -/
theorem decodeOp_short (op b1 b2 : Byte) : lengthOf op = 3 ∨ (lengthOf op = 2 ∧ decodeOp op b1 b2 = decodeOp op b1 0) ∨
    (lengthOf op = 1 ∧ decodeOp op b1 b2 = decodeOp op 0 0) := by
  by_cases hcb : op = 0xCB
  · subst hcb; exact Or.inr (Or.inl ⟨rfl, rfl⟩)
  · have hi : op.toNat / 16 < 16 := by have := op.isLt; omega
    have lo : op.toNat % 16 < 16 := by omega
    have hop : BitVec.ofNat 8 (16 * (op.toNat / 16) + op.toNat % 16) = op := by
      rw [Nat.div_add_mod]; simp
    have w := entry_word b1 (wordOf b2 b1) (wordOf 0 b1) _ _ hi lo
    have w' := entry_word 0 (wordOf b2 b1) (wordOf 0 0) _ _ hi lo
    have b := entry_byte b1 0 (wordOf b2 b1) _ _ hi lo
    rw [hop] at w w' b
    simp only [decodeOp, if_neg hcb]
    rcases lengthOf_cases op with h | h | h
    · exact Or.inr (Or.inr ⟨h, (b (by omega)).trans (w' (by omega))⟩)
    · exact Or.inr (Or.inl ⟨h, w (by omega)⟩)
    · exact Or.inl h

/-- With two bytes at hand after the first, decoding succeeds and names what `decodeOp` names: the decoder and the
machine's fetch agree. -/
theorem decode_three (op b1 b2 : Byte) : ∃ rest, decode [op, b1, b2] = .ok (decodeOp op b1 b2, rest) := by
  rcases decodeOp_short op b1 b2 with h | ⟨h, k⟩ | ⟨h, k⟩ <;> simp [decode, *]

/-- `AtPc` names the one instruction the machine fetches. -/
theorem Stated.atPc_iff (s : State) (i : Instr) : Stated.AtPc s i ↔ i = s.instrAtPc := by
  unfold Stated.AtPc State.instrAtPc
  rw [Stated.pcPast_eq, Stated.pcPast_eq]
  obtain ⟨rest, h⟩ := decode_three (s.memRead s.pc) (s.memRead (s.pcAfter 1)) (s.memRead (s.pcAfter 2))
  rw [h]
  constructor
  · rintro ⟨r, hr⟩
    exact ((Prod.mk.inj (Except.ok.inj hr)).1).symm
  · rintro rfl
    exact ⟨rest, rfl⟩

end Sys2Proof
end

