-- ==== Sys2Proof/Laws/Host.lean ====
section
/-!
SUPPORT. What the moves of the host leave: the back door used byte by byte (R91), a debugger's patches (R92).
-/
open Sys2Proof.Stated

namespace Sys2Proof.Machine

/-- What the back door may change: the bus, which keeps its canonical form, and nothing else. -/
structure BusOnly (s t : State) : Prop where
  memory : Memory.wf s.mem → Memory.wf t.mem
  rest : t = { s with
    div := t.div, tima := t.tima, tma := t.tma, tac := t.tac, iflag := t.iflag, ie := t.ie, mem := t.mem }

theorem BusOnly.refl (s : State) : BusOnly s s := ⟨id, rfl⟩

theorem BusOnly.trans {s t u : State} (h : BusOnly s t) (k : BusOnly t u) : BusOnly s u :=
  ⟨k.memory ∘ h.memory, by rw [k.rest, h.rest]⟩

theorem rawWrite_only (s : State) (addr : Word) (v : Byte) : BusOnly s (s.rawWrite addr v) :=
  ⟨fun h => State.wf_rawWrite s h addr v, by unfold State.rawWrite; split <;> rfl⟩

theorem loadCells_only (s : State) (cells : List (Word × Byte)) : BusOnly s (s.loadCells cells) := by
  induction cells generalizing s with
  | nil => exact .refl s
  | cons c cells ih => exact (rawWrite_only s c.1 c.2).trans (ih _)

theorem loadBytes_only (s : State) (addr : Word) (vs : List Byte) : BusOnly s (s.loadBytes addr vs) := by
  induction vs generalizing s addr with
  | nil => exact .refl s
  | cons v vs ih => exact (rawWrite_only s addr v).trans (ih _ _)

/-- A byte after single bytes have been written: the last one given to its address, or as before. -/
theorem memRead_loadCells (s : State) (h : Memory.wf s.mem) (cells : List (Word × Byte)) (a : Word) :
    (s.loadCells cells).memRead a = (lastGiven cells a).getD (s.memRead a) := by
  have key : ∀ (cells : List (Word × Byte)) (s : State) (got : Option Byte) (v : Byte), Memory.wf s.mem →
      s.memRead a = got.getD v → (s.loadCells cells).memRead a =
        (cells.foldl (fun got cell => if underEcho cell.1 = underEcho a then some cell.2 else got) got).getD v := by
    intro cells
    induction cells with
    | nil => exact fun s got v _ e => e
    | cons c cells ih =>
      intro s got v hw e
      refine ih _ _ v (State.wf_rawWrite s hw c.1 c.2) ?_
      show State.rawRead _ a = _
      simp only [State.rawRead_rawWrite s hw, underEcho_eq]
      by_cases hb : backing c.1 = backing a
      · rw [if_pos hb, if_pos hb.symm]; rfl
      · rw [if_neg hb, if_neg (Ne.symm hb)]; exact e
  exact key cells s none (s.memRead a) h rfl

/-- A byte that a run of bytes does not reach is as before. -/
theorem memRead_loadBytes_off (s : State) (h : Memory.wf s.mem) (addr : Word) (vs : List Byte) (a : Word)
    (off : ∀ i, i < vs.length → backing (addr + BitVec.ofNat 16 i) ≠ backing a) :
    (s.loadBytes addr vs).memRead a = s.memRead a := by
  induction vs generalizing s addr with
  | nil => rfl
  | cons v vs ih =>
    have h0 := off 0 (by simp)
    rw [State.loadBytes, ih _ (State.wf_rawWrite s h addr v)]
    · show State.rawRead _ a = _
      rw [State.rawRead_rawWrite s h, if_neg]
      · rfl
      · intro e; apply h0; rw [e]; simp
    · intro i hi
      have := off (i + 1) (by simp; omega)
      rwa [show addr + 1 + BitVec.ofNat 16 i = addr + BitVec.ofNat 16 (i + 1) from by
        rw [BitVec.add_assoc, BitVec.add_comm 1, show (1 : Word) = BitVec.ofNat 16 1 from rfl, ← BitVec.ofNat_add]]

/-- Byte `i` of a run of bytes is read back at the address it was written to, where no later byte of the run falls on
the same backing byte. -/
theorem memRead_loadBytes_at (s : State) (h : Memory.wf s.mem) (addr : Word) (vs : List Byte) (i : Nat)
    (hi : i < vs.length) (off : ∀ j, i < j → j < vs.length →
      backing (addr + BitVec.ofNat 16 j) ≠ backing (addr + BitVec.ofNat 16 i)) :
    (s.loadBytes addr vs).memRead (addr + BitVec.ofNat 16 i) = vs.getD i 0 := by
  induction vs generalizing s addr i with
  | nil => simp at hi
  | cons v vs ih =>
    have next (j : Nat) : addr + 1 + BitVec.ofNat 16 j = addr + BitVec.ofNat 16 (j + 1) := by
      rw [BitVec.add_assoc, BitVec.add_comm 1, show (1 : Word) = BitVec.ofNat 16 1 from rfl, ← BitVec.ofNat_add]
    have hw := State.wf_rawWrite s h addr v
    cases i with
    | zero =>
      rw [State.loadBytes, memRead_loadBytes_off _ hw]
      · show State.rawRead _ _ = _
        rw [State.rawRead_rawWrite s h]; simp
      · intro j hj
        rw [next]
        exact off (j + 1) (by omega) (by simp; omega)
    | succ i =>
      rw [State.loadBytes, ← next, ih _ hw _ i (by simpa using hi)]
      · simp
      · intro j hij hj
        rw [next, next]
        exact off (j + 1) (by omega) (by simp; omega)

/-- What a debugger's patches keep: memory's canonical form, bits 3 to 0 of F at 0, `run_state`, the reported cycles
and the parameters. -/
structure Patched (s t : State) : Prop where
  memory : Memory.wf s.mem → Memory.wf t.mem
  flagByte : s.f &&& 0x0F = 0 → t.f &&& 0x0F = 0
  runState : t.runState = s.runState
  cycles : t.cycles = s.cycles
  cfg : t.cfg = s.cfg
  env : t.env = s.env

theorem Patched.trans {s t u : State} (h : Patched s t) (k : Patched t u) : Patched s u :=
  ⟨k.memory ∘ h.memory, k.flagByte ∘ h.flagByte, k.runState.trans h.runState, k.cycles.trans h.cycles,
    k.cfg.trans h.cfg, k.env.trans h.env⟩

theorem patch_only (s : State) (p : Patch) : Patched s (s.patch p) := by
  cases p with
  | reg r v => refine ⟨?_, ?_, ?_, ?_, ?_, ?_⟩ <;> simp [State.patch]
  | flagByte v =>
    refine ⟨id, fun _ => ?_, rfl, rfl, rfl, rfl⟩
    show v &&& 0xF0 &&& 0x0F = 0
    revert v; decide
  | bus addr v => refine ⟨fun h => State.wf_rawWrite s h addr v, ?_, ?_, ?_, ?_, ?_⟩ <;> simp [State.patch]
  | _ => exact ⟨id, id, rfl, rfl, rfl, rfl⟩

theorem patches_only (ps : List Patch) (s : State) : Patched s (ps.foldl State.patch s) := by
  induction ps generalizing s with
  | nil => exact ⟨id, id, rfl, rfl, rfl, rfl⟩
  | cons p ps ih => exact (patch_only s p).trans (ih _)

end Sys2Proof.Machine
end

