-- ==== Sys2Proof/Laws/PerInstr.lean ====
section
/-!
SUPPORT. The statement made of every instruction: the length of its encoding is the one its first byte calls for
(rule R102), one lemma for each constructor.
-/
namespace Sys2Proof.Laws

/-- The encoding has a first byte, and its length is what that byte calls for; the prefix row alone is one byte short
of an instruction (R119). -/
def EncodedLength.Statement (i : Instr) : Prop :=
  ∃ op rest, encode i = op :: rest ∧ (i.wellFormed = true → (encode i).length = lengthOf op)

theorem EncodedLength.nop : EncodedLength.Statement .nop := ⟨_, _, rfl, fun _ => rfl⟩
theorem EncodedLength.ld_BC_nn (nn : Word) : EncodedLength.Statement (.ld_BC_nn nn) := ⟨_, _, rfl, fun _ => rfl⟩
theorem EncodedLength.ld_mBC_A : EncodedLength.Statement .ld_mBC_A := ⟨_, _, rfl, fun _ => rfl⟩
theorem EncodedLength.inc_BC : EncodedLength.Statement .inc_BC := ⟨_, _, rfl, fun _ => rfl⟩
theorem EncodedLength.inc_B : EncodedLength.Statement .inc_B := ⟨_, _, rfl, fun _ => rfl⟩
theorem EncodedLength.dec_B : EncodedLength.Statement .dec_B := ⟨_, _, rfl, fun _ => rfl⟩
theorem EncodedLength.ld_B_n (n : Byte) : EncodedLength.Statement (.ld_B_n n) := ⟨_, _, rfl, fun _ => rfl⟩
theorem EncodedLength.rlca : EncodedLength.Statement .rlca := ⟨_, _, rfl, fun _ => rfl⟩
theorem EncodedLength.ld_mnn_SP (nn : Word) : EncodedLength.Statement (.ld_mnn_SP nn) := ⟨_, _, rfl, fun _ => rfl⟩
theorem EncodedLength.add_HL_BC : EncodedLength.Statement .add_HL_BC := ⟨_, _, rfl, fun _ => rfl⟩
theorem EncodedLength.ld_A_mBC : EncodedLength.Statement .ld_A_mBC := ⟨_, _, rfl, fun _ => rfl⟩
theorem EncodedLength.dec_BC : EncodedLength.Statement .dec_BC := ⟨_, _, rfl, fun _ => rfl⟩
theorem EncodedLength.inc_C : EncodedLength.Statement .inc_C := ⟨_, _, rfl, fun _ => rfl⟩
theorem EncodedLength.dec_C : EncodedLength.Statement .dec_C := ⟨_, _, rfl, fun _ => rfl⟩
theorem EncodedLength.ld_C_n (n : Byte) : EncodedLength.Statement (.ld_C_n n) := ⟨_, _, rfl, fun _ => rfl⟩
theorem EncodedLength.rrca : EncodedLength.Statement .rrca := ⟨_, _, rfl, fun _ => rfl⟩
theorem EncodedLength.stop : EncodedLength.Statement .stop := ⟨_, _, rfl, fun _ => rfl⟩
theorem EncodedLength.ld_DE_nn (nn : Word) : EncodedLength.Statement (.ld_DE_nn nn) := ⟨_, _, rfl, fun _ => rfl⟩
theorem EncodedLength.ld_mDE_A : EncodedLength.Statement .ld_mDE_A := ⟨_, _, rfl, fun _ => rfl⟩
theorem EncodedLength.inc_DE : EncodedLength.Statement .inc_DE := ⟨_, _, rfl, fun _ => rfl⟩
theorem EncodedLength.inc_D : EncodedLength.Statement .inc_D := ⟨_, _, rfl, fun _ => rfl⟩
theorem EncodedLength.dec_D : EncodedLength.Statement .dec_D := ⟨_, _, rfl, fun _ => rfl⟩
theorem EncodedLength.ld_D_n (n : Byte) : EncodedLength.Statement (.ld_D_n n) := ⟨_, _, rfl, fun _ => rfl⟩
theorem EncodedLength.rla : EncodedLength.Statement .rla := ⟨_, _, rfl, fun _ => rfl⟩
theorem EncodedLength.jr_e (e : Byte) : EncodedLength.Statement (.jr_e e) := ⟨_, _, rfl, fun _ => rfl⟩
theorem EncodedLength.add_HL_DE : EncodedLength.Statement .add_HL_DE := ⟨_, _, rfl, fun _ => rfl⟩
theorem EncodedLength.ld_A_mDE : EncodedLength.Statement .ld_A_mDE := ⟨_, _, rfl, fun _ => rfl⟩
theorem EncodedLength.dec_DE : EncodedLength.Statement .dec_DE := ⟨_, _, rfl, fun _ => rfl⟩
theorem EncodedLength.inc_E : EncodedLength.Statement .inc_E := ⟨_, _, rfl, fun _ => rfl⟩
theorem EncodedLength.dec_E : EncodedLength.Statement .dec_E := ⟨_, _, rfl, fun _ => rfl⟩
theorem EncodedLength.ld_E_n (n : Byte) : EncodedLength.Statement (.ld_E_n n) := ⟨_, _, rfl, fun _ => rfl⟩
theorem EncodedLength.rra : EncodedLength.Statement .rra := ⟨_, _, rfl, fun _ => rfl⟩
theorem EncodedLength.jr_NZ_e (e : Byte) : EncodedLength.Statement (.jr_NZ_e e) := ⟨_, _, rfl, fun _ => rfl⟩
theorem EncodedLength.ld_HL_nn (nn : Word) : EncodedLength.Statement (.ld_HL_nn nn) := ⟨_, _, rfl, fun _ => rfl⟩
theorem EncodedLength.ld_HLinc_A : EncodedLength.Statement .ld_HLinc_A := ⟨_, _, rfl, fun _ => rfl⟩
theorem EncodedLength.inc_HL : EncodedLength.Statement .inc_HL := ⟨_, _, rfl, fun _ => rfl⟩
theorem EncodedLength.inc_H : EncodedLength.Statement .inc_H := ⟨_, _, rfl, fun _ => rfl⟩
theorem EncodedLength.dec_H : EncodedLength.Statement .dec_H := ⟨_, _, rfl, fun _ => rfl⟩
theorem EncodedLength.ld_H_n (n : Byte) : EncodedLength.Statement (.ld_H_n n) := ⟨_, _, rfl, fun _ => rfl⟩
theorem EncodedLength.daa : EncodedLength.Statement .daa := ⟨_, _, rfl, fun _ => rfl⟩
theorem EncodedLength.jr_Z_e (e : Byte) : EncodedLength.Statement (.jr_Z_e e) := ⟨_, _, rfl, fun _ => rfl⟩
theorem EncodedLength.add_HL_HL : EncodedLength.Statement .add_HL_HL := ⟨_, _, rfl, fun _ => rfl⟩
theorem EncodedLength.ld_A_HLinc : EncodedLength.Statement .ld_A_HLinc := ⟨_, _, rfl, fun _ => rfl⟩
theorem EncodedLength.dec_HL : EncodedLength.Statement .dec_HL := ⟨_, _, rfl, fun _ => rfl⟩
theorem EncodedLength.inc_L : EncodedLength.Statement .inc_L := ⟨_, _, rfl, fun _ => rfl⟩
theorem EncodedLength.dec_L : EncodedLength.Statement .dec_L := ⟨_, _, rfl, fun _ => rfl⟩
theorem EncodedLength.ld_L_n (n : Byte) : EncodedLength.Statement (.ld_L_n n) := ⟨_, _, rfl, fun _ => rfl⟩
theorem EncodedLength.cpl : EncodedLength.Statement .cpl := ⟨_, _, rfl, fun _ => rfl⟩
theorem EncodedLength.jr_NC_e (e : Byte) : EncodedLength.Statement (.jr_NC_e e) := ⟨_, _, rfl, fun _ => rfl⟩
theorem EncodedLength.ld_SP_nn (nn : Word) : EncodedLength.Statement (.ld_SP_nn nn) := ⟨_, _, rfl, fun _ => rfl⟩
theorem EncodedLength.ld_HLdec_A : EncodedLength.Statement .ld_HLdec_A := ⟨_, _, rfl, fun _ => rfl⟩
theorem EncodedLength.inc_SP : EncodedLength.Statement .inc_SP := ⟨_, _, rfl, fun _ => rfl⟩
theorem EncodedLength.inc_mHL : EncodedLength.Statement .inc_mHL := ⟨_, _, rfl, fun _ => rfl⟩
theorem EncodedLength.dec_mHL : EncodedLength.Statement .dec_mHL := ⟨_, _, rfl, fun _ => rfl⟩
theorem EncodedLength.ld_mHL_n (n : Byte) : EncodedLength.Statement (.ld_mHL_n n) := ⟨_, _, rfl, fun _ => rfl⟩
theorem EncodedLength.scf : EncodedLength.Statement .scf := ⟨_, _, rfl, fun _ => rfl⟩
theorem EncodedLength.jr_C_e (e : Byte) : EncodedLength.Statement (.jr_C_e e) := ⟨_, _, rfl, fun _ => rfl⟩
theorem EncodedLength.add_HL_SP : EncodedLength.Statement .add_HL_SP := ⟨_, _, rfl, fun _ => rfl⟩
theorem EncodedLength.ld_A_HLdec : EncodedLength.Statement .ld_A_HLdec := ⟨_, _, rfl, fun _ => rfl⟩
theorem EncodedLength.dec_SP : EncodedLength.Statement .dec_SP := ⟨_, _, rfl, fun _ => rfl⟩
theorem EncodedLength.inc_A : EncodedLength.Statement .inc_A := ⟨_, _, rfl, fun _ => rfl⟩
theorem EncodedLength.dec_A : EncodedLength.Statement .dec_A := ⟨_, _, rfl, fun _ => rfl⟩
theorem EncodedLength.ld_A_n (n : Byte) : EncodedLength.Statement (.ld_A_n n) := ⟨_, _, rfl, fun _ => rfl⟩
theorem EncodedLength.ccf : EncodedLength.Statement .ccf := ⟨_, _, rfl, fun _ => rfl⟩
theorem EncodedLength.ld_B_B : EncodedLength.Statement .ld_B_B := ⟨_, _, rfl, fun _ => rfl⟩
theorem EncodedLength.ld_B_C : EncodedLength.Statement .ld_B_C := ⟨_, _, rfl, fun _ => rfl⟩
theorem EncodedLength.ld_B_D : EncodedLength.Statement .ld_B_D := ⟨_, _, rfl, fun _ => rfl⟩
theorem EncodedLength.ld_B_E : EncodedLength.Statement .ld_B_E := ⟨_, _, rfl, fun _ => rfl⟩
theorem EncodedLength.ld_B_H : EncodedLength.Statement .ld_B_H := ⟨_, _, rfl, fun _ => rfl⟩
theorem EncodedLength.ld_B_L : EncodedLength.Statement .ld_B_L := ⟨_, _, rfl, fun _ => rfl⟩
theorem EncodedLength.ld_B_mHL : EncodedLength.Statement .ld_B_mHL := ⟨_, _, rfl, fun _ => rfl⟩
theorem EncodedLength.ld_B_A : EncodedLength.Statement .ld_B_A := ⟨_, _, rfl, fun _ => rfl⟩
theorem EncodedLength.ld_C_B : EncodedLength.Statement .ld_C_B := ⟨_, _, rfl, fun _ => rfl⟩
theorem EncodedLength.ld_C_C : EncodedLength.Statement .ld_C_C := ⟨_, _, rfl, fun _ => rfl⟩
theorem EncodedLength.ld_C_D : EncodedLength.Statement .ld_C_D := ⟨_, _, rfl, fun _ => rfl⟩
theorem EncodedLength.ld_C_E : EncodedLength.Statement .ld_C_E := ⟨_, _, rfl, fun _ => rfl⟩
theorem EncodedLength.ld_C_H : EncodedLength.Statement .ld_C_H := ⟨_, _, rfl, fun _ => rfl⟩
theorem EncodedLength.ld_C_L : EncodedLength.Statement .ld_C_L := ⟨_, _, rfl, fun _ => rfl⟩
theorem EncodedLength.ld_C_mHL : EncodedLength.Statement .ld_C_mHL := ⟨_, _, rfl, fun _ => rfl⟩
theorem EncodedLength.ld_C_A : EncodedLength.Statement .ld_C_A := ⟨_, _, rfl, fun _ => rfl⟩
theorem EncodedLength.ld_D_B : EncodedLength.Statement .ld_D_B := ⟨_, _, rfl, fun _ => rfl⟩
theorem EncodedLength.ld_D_C : EncodedLength.Statement .ld_D_C := ⟨_, _, rfl, fun _ => rfl⟩
theorem EncodedLength.ld_D_D : EncodedLength.Statement .ld_D_D := ⟨_, _, rfl, fun _ => rfl⟩
theorem EncodedLength.ld_D_E : EncodedLength.Statement .ld_D_E := ⟨_, _, rfl, fun _ => rfl⟩
theorem EncodedLength.ld_D_H : EncodedLength.Statement .ld_D_H := ⟨_, _, rfl, fun _ => rfl⟩
theorem EncodedLength.ld_D_L : EncodedLength.Statement .ld_D_L := ⟨_, _, rfl, fun _ => rfl⟩
theorem EncodedLength.ld_D_mHL : EncodedLength.Statement .ld_D_mHL := ⟨_, _, rfl, fun _ => rfl⟩
theorem EncodedLength.ld_D_A : EncodedLength.Statement .ld_D_A := ⟨_, _, rfl, fun _ => rfl⟩
theorem EncodedLength.ld_E_B : EncodedLength.Statement .ld_E_B := ⟨_, _, rfl, fun _ => rfl⟩
theorem EncodedLength.ld_E_C : EncodedLength.Statement .ld_E_C := ⟨_, _, rfl, fun _ => rfl⟩
theorem EncodedLength.ld_E_D : EncodedLength.Statement .ld_E_D := ⟨_, _, rfl, fun _ => rfl⟩
theorem EncodedLength.ld_E_E : EncodedLength.Statement .ld_E_E := ⟨_, _, rfl, fun _ => rfl⟩
theorem EncodedLength.ld_E_H : EncodedLength.Statement .ld_E_H := ⟨_, _, rfl, fun _ => rfl⟩
theorem EncodedLength.ld_E_L : EncodedLength.Statement .ld_E_L := ⟨_, _, rfl, fun _ => rfl⟩
theorem EncodedLength.ld_E_mHL : EncodedLength.Statement .ld_E_mHL := ⟨_, _, rfl, fun _ => rfl⟩
theorem EncodedLength.ld_E_A : EncodedLength.Statement .ld_E_A := ⟨_, _, rfl, fun _ => rfl⟩
theorem EncodedLength.ld_H_B : EncodedLength.Statement .ld_H_B := ⟨_, _, rfl, fun _ => rfl⟩
theorem EncodedLength.ld_H_C : EncodedLength.Statement .ld_H_C := ⟨_, _, rfl, fun _ => rfl⟩
theorem EncodedLength.ld_H_D : EncodedLength.Statement .ld_H_D := ⟨_, _, rfl, fun _ => rfl⟩
theorem EncodedLength.ld_H_E : EncodedLength.Statement .ld_H_E := ⟨_, _, rfl, fun _ => rfl⟩
theorem EncodedLength.ld_H_H : EncodedLength.Statement .ld_H_H := ⟨_, _, rfl, fun _ => rfl⟩
theorem EncodedLength.ld_H_L : EncodedLength.Statement .ld_H_L := ⟨_, _, rfl, fun _ => rfl⟩
theorem EncodedLength.ld_H_mHL : EncodedLength.Statement .ld_H_mHL := ⟨_, _, rfl, fun _ => rfl⟩
theorem EncodedLength.ld_H_A : EncodedLength.Statement .ld_H_A := ⟨_, _, rfl, fun _ => rfl⟩
theorem EncodedLength.ld_L_B : EncodedLength.Statement .ld_L_B := ⟨_, _, rfl, fun _ => rfl⟩
theorem EncodedLength.ld_L_C : EncodedLength.Statement .ld_L_C := ⟨_, _, rfl, fun _ => rfl⟩
theorem EncodedLength.ld_L_D : EncodedLength.Statement .ld_L_D := ⟨_, _, rfl, fun _ => rfl⟩
theorem EncodedLength.ld_L_E : EncodedLength.Statement .ld_L_E := ⟨_, _, rfl, fun _ => rfl⟩
theorem EncodedLength.ld_L_H : EncodedLength.Statement .ld_L_H := ⟨_, _, rfl, fun _ => rfl⟩
theorem EncodedLength.ld_L_L : EncodedLength.Statement .ld_L_L := ⟨_, _, rfl, fun _ => rfl⟩
theorem EncodedLength.ld_L_mHL : EncodedLength.Statement .ld_L_mHL := ⟨_, _, rfl, fun _ => rfl⟩
theorem EncodedLength.ld_L_A : EncodedLength.Statement .ld_L_A := ⟨_, _, rfl, fun _ => rfl⟩
theorem EncodedLength.ld_mHL_B : EncodedLength.Statement .ld_mHL_B := ⟨_, _, rfl, fun _ => rfl⟩
theorem EncodedLength.ld_mHL_C : EncodedLength.Statement .ld_mHL_C := ⟨_, _, rfl, fun _ => rfl⟩
theorem EncodedLength.ld_mHL_D : EncodedLength.Statement .ld_mHL_D := ⟨_, _, rfl, fun _ => rfl⟩
theorem EncodedLength.ld_mHL_E : EncodedLength.Statement .ld_mHL_E := ⟨_, _, rfl, fun _ => rfl⟩
theorem EncodedLength.ld_mHL_H : EncodedLength.Statement .ld_mHL_H := ⟨_, _, rfl, fun _ => rfl⟩
theorem EncodedLength.ld_mHL_L : EncodedLength.Statement .ld_mHL_L := ⟨_, _, rfl, fun _ => rfl⟩
theorem EncodedLength.halt : EncodedLength.Statement .halt := ⟨_, _, rfl, fun _ => rfl⟩
theorem EncodedLength.ld_mHL_A : EncodedLength.Statement .ld_mHL_A := ⟨_, _, rfl, fun _ => rfl⟩
theorem EncodedLength.ld_A_B : EncodedLength.Statement .ld_A_B := ⟨_, _, rfl, fun _ => rfl⟩
theorem EncodedLength.ld_A_C : EncodedLength.Statement .ld_A_C := ⟨_, _, rfl, fun _ => rfl⟩
theorem EncodedLength.ld_A_D : EncodedLength.Statement .ld_A_D := ⟨_, _, rfl, fun _ => rfl⟩
theorem EncodedLength.ld_A_E : EncodedLength.Statement .ld_A_E := ⟨_, _, rfl, fun _ => rfl⟩
theorem EncodedLength.ld_A_H : EncodedLength.Statement .ld_A_H := ⟨_, _, rfl, fun _ => rfl⟩
theorem EncodedLength.ld_A_L : EncodedLength.Statement .ld_A_L := ⟨_, _, rfl, fun _ => rfl⟩
theorem EncodedLength.ld_A_mHL : EncodedLength.Statement .ld_A_mHL := ⟨_, _, rfl, fun _ => rfl⟩
theorem EncodedLength.ld_A_A : EncodedLength.Statement .ld_A_A := ⟨_, _, rfl, fun _ => rfl⟩
theorem EncodedLength.add_A_B : EncodedLength.Statement .add_A_B := ⟨_, _, rfl, fun _ => rfl⟩
theorem EncodedLength.add_A_C : EncodedLength.Statement .add_A_C := ⟨_, _, rfl, fun _ => rfl⟩
theorem EncodedLength.add_A_D : EncodedLength.Statement .add_A_D := ⟨_, _, rfl, fun _ => rfl⟩
theorem EncodedLength.add_A_E : EncodedLength.Statement .add_A_E := ⟨_, _, rfl, fun _ => rfl⟩
theorem EncodedLength.add_A_H : EncodedLength.Statement .add_A_H := ⟨_, _, rfl, fun _ => rfl⟩
theorem EncodedLength.add_A_L : EncodedLength.Statement .add_A_L := ⟨_, _, rfl, fun _ => rfl⟩
theorem EncodedLength.add_A_mHL : EncodedLength.Statement .add_A_mHL := ⟨_, _, rfl, fun _ => rfl⟩
theorem EncodedLength.add_A_A : EncodedLength.Statement .add_A_A := ⟨_, _, rfl, fun _ => rfl⟩
theorem EncodedLength.adc_A_B : EncodedLength.Statement .adc_A_B := ⟨_, _, rfl, fun _ => rfl⟩
theorem EncodedLength.adc_A_C : EncodedLength.Statement .adc_A_C := ⟨_, _, rfl, fun _ => rfl⟩
theorem EncodedLength.adc_A_D : EncodedLength.Statement .adc_A_D := ⟨_, _, rfl, fun _ => rfl⟩
theorem EncodedLength.adc_A_E : EncodedLength.Statement .adc_A_E := ⟨_, _, rfl, fun _ => rfl⟩
theorem EncodedLength.adc_A_H : EncodedLength.Statement .adc_A_H := ⟨_, _, rfl, fun _ => rfl⟩
theorem EncodedLength.adc_A_L : EncodedLength.Statement .adc_A_L := ⟨_, _, rfl, fun _ => rfl⟩
theorem EncodedLength.adc_A_mHL : EncodedLength.Statement .adc_A_mHL := ⟨_, _, rfl, fun _ => rfl⟩
theorem EncodedLength.adc_A_A : EncodedLength.Statement .adc_A_A := ⟨_, _, rfl, fun _ => rfl⟩
theorem EncodedLength.sub_B : EncodedLength.Statement .sub_B := ⟨_, _, rfl, fun _ => rfl⟩
theorem EncodedLength.sub_C : EncodedLength.Statement .sub_C := ⟨_, _, rfl, fun _ => rfl⟩
theorem EncodedLength.sub_D : EncodedLength.Statement .sub_D := ⟨_, _, rfl, fun _ => rfl⟩
theorem EncodedLength.sub_E : EncodedLength.Statement .sub_E := ⟨_, _, rfl, fun _ => rfl⟩
theorem EncodedLength.sub_H : EncodedLength.Statement .sub_H := ⟨_, _, rfl, fun _ => rfl⟩
theorem EncodedLength.sub_L : EncodedLength.Statement .sub_L := ⟨_, _, rfl, fun _ => rfl⟩
theorem EncodedLength.sub_mHL : EncodedLength.Statement .sub_mHL := ⟨_, _, rfl, fun _ => rfl⟩
theorem EncodedLength.sub_A : EncodedLength.Statement .sub_A := ⟨_, _, rfl, fun _ => rfl⟩
theorem EncodedLength.sbc_A_B : EncodedLength.Statement .sbc_A_B := ⟨_, _, rfl, fun _ => rfl⟩
theorem EncodedLength.sbc_A_C : EncodedLength.Statement .sbc_A_C := ⟨_, _, rfl, fun _ => rfl⟩
theorem EncodedLength.sbc_A_D : EncodedLength.Statement .sbc_A_D := ⟨_, _, rfl, fun _ => rfl⟩
theorem EncodedLength.sbc_A_E : EncodedLength.Statement .sbc_A_E := ⟨_, _, rfl, fun _ => rfl⟩
theorem EncodedLength.sbc_A_H : EncodedLength.Statement .sbc_A_H := ⟨_, _, rfl, fun _ => rfl⟩
theorem EncodedLength.sbc_A_L : EncodedLength.Statement .sbc_A_L := ⟨_, _, rfl, fun _ => rfl⟩
theorem EncodedLength.sbc_A_mHL : EncodedLength.Statement .sbc_A_mHL := ⟨_, _, rfl, fun _ => rfl⟩
theorem EncodedLength.sbc_A_A : EncodedLength.Statement .sbc_A_A := ⟨_, _, rfl, fun _ => rfl⟩
theorem EncodedLength.and_B : EncodedLength.Statement .and_B := ⟨_, _, rfl, fun _ => rfl⟩
theorem EncodedLength.and_C : EncodedLength.Statement .and_C := ⟨_, _, rfl, fun _ => rfl⟩
theorem EncodedLength.and_D : EncodedLength.Statement .and_D := ⟨_, _, rfl, fun _ => rfl⟩
theorem EncodedLength.and_E : EncodedLength.Statement .and_E := ⟨_, _, rfl, fun _ => rfl⟩
theorem EncodedLength.and_H : EncodedLength.Statement .and_H := ⟨_, _, rfl, fun _ => rfl⟩
theorem EncodedLength.and_L : EncodedLength.Statement .and_L := ⟨_, _, rfl, fun _ => rfl⟩
theorem EncodedLength.and_mHL : EncodedLength.Statement .and_mHL := ⟨_, _, rfl, fun _ => rfl⟩
theorem EncodedLength.and_A : EncodedLength.Statement .and_A := ⟨_, _, rfl, fun _ => rfl⟩
theorem EncodedLength.xor_B : EncodedLength.Statement .xor_B := ⟨_, _, rfl, fun _ => rfl⟩
theorem EncodedLength.xor_C : EncodedLength.Statement .xor_C := ⟨_, _, rfl, fun _ => rfl⟩
theorem EncodedLength.xor_D : EncodedLength.Statement .xor_D := ⟨_, _, rfl, fun _ => rfl⟩
theorem EncodedLength.xor_E : EncodedLength.Statement .xor_E := ⟨_, _, rfl, fun _ => rfl⟩
theorem EncodedLength.xor_H : EncodedLength.Statement .xor_H := ⟨_, _, rfl, fun _ => rfl⟩
theorem EncodedLength.xor_L : EncodedLength.Statement .xor_L := ⟨_, _, rfl, fun _ => rfl⟩
theorem EncodedLength.xor_mHL : EncodedLength.Statement .xor_mHL := ⟨_, _, rfl, fun _ => rfl⟩
theorem EncodedLength.xor_A : EncodedLength.Statement .xor_A := ⟨_, _, rfl, fun _ => rfl⟩
theorem EncodedLength.or_B : EncodedLength.Statement .or_B := ⟨_, _, rfl, fun _ => rfl⟩
theorem EncodedLength.or_C : EncodedLength.Statement .or_C := ⟨_, _, rfl, fun _ => rfl⟩
theorem EncodedLength.or_D : EncodedLength.Statement .or_D := ⟨_, _, rfl, fun _ => rfl⟩
theorem EncodedLength.or_E : EncodedLength.Statement .or_E := ⟨_, _, rfl, fun _ => rfl⟩
theorem EncodedLength.or_H : EncodedLength.Statement .or_H := ⟨_, _, rfl, fun _ => rfl⟩
theorem EncodedLength.or_L : EncodedLength.Statement .or_L := ⟨_, _, rfl, fun _ => rfl⟩
theorem EncodedLength.or_mHL : EncodedLength.Statement .or_mHL := ⟨_, _, rfl, fun _ => rfl⟩
theorem EncodedLength.or_A : EncodedLength.Statement .or_A := ⟨_, _, rfl, fun _ => rfl⟩
theorem EncodedLength.cp_B : EncodedLength.Statement .cp_B := ⟨_, _, rfl, fun _ => rfl⟩
theorem EncodedLength.cp_C : EncodedLength.Statement .cp_C := ⟨_, _, rfl, fun _ => rfl⟩
theorem EncodedLength.cp_D : EncodedLength.Statement .cp_D := ⟨_, _, rfl, fun _ => rfl⟩
theorem EncodedLength.cp_E : EncodedLength.Statement .cp_E := ⟨_, _, rfl, fun _ => rfl⟩
theorem EncodedLength.cp_H : EncodedLength.Statement .cp_H := ⟨_, _, rfl, fun _ => rfl⟩
theorem EncodedLength.cp_L : EncodedLength.Statement .cp_L := ⟨_, _, rfl, fun _ => rfl⟩
theorem EncodedLength.cp_mHL : EncodedLength.Statement .cp_mHL := ⟨_, _, rfl, fun _ => rfl⟩
theorem EncodedLength.cp_A : EncodedLength.Statement .cp_A := ⟨_, _, rfl, fun _ => rfl⟩
theorem EncodedLength.ret_NZ : EncodedLength.Statement .ret_NZ := ⟨_, _, rfl, fun _ => rfl⟩
theorem EncodedLength.pop_BC : EncodedLength.Statement .pop_BC := ⟨_, _, rfl, fun _ => rfl⟩
theorem EncodedLength.jp_NZ_nn (nn : Word) : EncodedLength.Statement (.jp_NZ_nn nn) := ⟨_, _, rfl, fun _ => rfl⟩
theorem EncodedLength.jp_nn (nn : Word) : EncodedLength.Statement (.jp_nn nn) := ⟨_, _, rfl, fun _ => rfl⟩
theorem EncodedLength.call_NZ_nn (nn : Word) : EncodedLength.Statement (.call_NZ_nn nn) := ⟨_, _, rfl, fun _ => rfl⟩
theorem EncodedLength.push_BC : EncodedLength.Statement .push_BC := ⟨_, _, rfl, fun _ => rfl⟩
theorem EncodedLength.add_A_n (n : Byte) : EncodedLength.Statement (.add_A_n n) := ⟨_, _, rfl, fun _ => rfl⟩
theorem EncodedLength.rst_00 : EncodedLength.Statement .rst_00 := ⟨_, _, rfl, fun _ => rfl⟩
theorem EncodedLength.ret_Z : EncodedLength.Statement .ret_Z := ⟨_, _, rfl, fun _ => rfl⟩
theorem EncodedLength.ret : EncodedLength.Statement .ret := ⟨_, _, rfl, fun _ => rfl⟩
theorem EncodedLength.jp_Z_nn (nn : Word) : EncodedLength.Statement (.jp_Z_nn nn) := ⟨_, _, rfl, fun _ => rfl⟩
theorem EncodedLength.cbPrefix : EncodedLength.Statement .cbPrefix := ⟨_, _, rfl, fun h => absurd h (by decide)⟩
theorem EncodedLength.call_Z_nn (nn : Word) : EncodedLength.Statement (.call_Z_nn nn) := ⟨_, _, rfl, fun _ => rfl⟩
theorem EncodedLength.call_nn (nn : Word) : EncodedLength.Statement (.call_nn nn) := ⟨_, _, rfl, fun _ => rfl⟩
theorem EncodedLength.adc_A_n (n : Byte) : EncodedLength.Statement (.adc_A_n n) := ⟨_, _, rfl, fun _ => rfl⟩
theorem EncodedLength.rst_08 : EncodedLength.Statement .rst_08 := ⟨_, _, rfl, fun _ => rfl⟩
theorem EncodedLength.ret_NC : EncodedLength.Statement .ret_NC := ⟨_, _, rfl, fun _ => rfl⟩
theorem EncodedLength.pop_DE : EncodedLength.Statement .pop_DE := ⟨_, _, rfl, fun _ => rfl⟩
theorem EncodedLength.jp_NC_nn (nn : Word) : EncodedLength.Statement (.jp_NC_nn nn) := ⟨_, _, rfl, fun _ => rfl⟩
theorem EncodedLength.illegal_D3 : EncodedLength.Statement .illegal_D3 := ⟨_, _, rfl, fun _ => rfl⟩
theorem EncodedLength.call_NC_nn (nn : Word) : EncodedLength.Statement (.call_NC_nn nn) := ⟨_, _, rfl, fun _ => rfl⟩
theorem EncodedLength.push_DE : EncodedLength.Statement .push_DE := ⟨_, _, rfl, fun _ => rfl⟩
theorem EncodedLength.sub_n (n : Byte) : EncodedLength.Statement (.sub_n n) := ⟨_, _, rfl, fun _ => rfl⟩
theorem EncodedLength.rst_10 : EncodedLength.Statement .rst_10 := ⟨_, _, rfl, fun _ => rfl⟩
theorem EncodedLength.ret_C : EncodedLength.Statement .ret_C := ⟨_, _, rfl, fun _ => rfl⟩
theorem EncodedLength.reti : EncodedLength.Statement .reti := ⟨_, _, rfl, fun _ => rfl⟩
theorem EncodedLength.jp_C_nn (nn : Word) : EncodedLength.Statement (.jp_C_nn nn) := ⟨_, _, rfl, fun _ => rfl⟩
theorem EncodedLength.illegal_DB : EncodedLength.Statement .illegal_DB := ⟨_, _, rfl, fun _ => rfl⟩
theorem EncodedLength.call_C_nn (nn : Word) : EncodedLength.Statement (.call_C_nn nn) := ⟨_, _, rfl, fun _ => rfl⟩
theorem EncodedLength.illegal_DD : EncodedLength.Statement .illegal_DD := ⟨_, _, rfl, fun _ => rfl⟩
theorem EncodedLength.sbc_A_n (n : Byte) : EncodedLength.Statement (.sbc_A_n n) := ⟨_, _, rfl, fun _ => rfl⟩
theorem EncodedLength.rst_18 : EncodedLength.Statement .rst_18 := ⟨_, _, rfl, fun _ => rfl⟩
theorem EncodedLength.ldh_mn_A (n : Byte) : EncodedLength.Statement (.ldh_mn_A n) := ⟨_, _, rfl, fun _ => rfl⟩
theorem EncodedLength.pop_HL : EncodedLength.Statement .pop_HL := ⟨_, _, rfl, fun _ => rfl⟩
theorem EncodedLength.ldh_mC_A : EncodedLength.Statement .ldh_mC_A := ⟨_, _, rfl, fun _ => rfl⟩
theorem EncodedLength.illegal_E3 : EncodedLength.Statement .illegal_E3 := ⟨_, _, rfl, fun _ => rfl⟩
theorem EncodedLength.illegal_E4 : EncodedLength.Statement .illegal_E4 := ⟨_, _, rfl, fun _ => rfl⟩
theorem EncodedLength.push_HL : EncodedLength.Statement .push_HL := ⟨_, _, rfl, fun _ => rfl⟩
theorem EncodedLength.and_n (n : Byte) : EncodedLength.Statement (.and_n n) := ⟨_, _, rfl, fun _ => rfl⟩
theorem EncodedLength.rst_20 : EncodedLength.Statement .rst_20 := ⟨_, _, rfl, fun _ => rfl⟩
theorem EncodedLength.add_SP_e (e : Byte) : EncodedLength.Statement (.add_SP_e e) := ⟨_, _, rfl, fun _ => rfl⟩
theorem EncodedLength.jp_HL : EncodedLength.Statement .jp_HL := ⟨_, _, rfl, fun _ => rfl⟩
theorem EncodedLength.ld_mnn_A (nn : Word) : EncodedLength.Statement (.ld_mnn_A nn) := ⟨_, _, rfl, fun _ => rfl⟩
theorem EncodedLength.illegal_EB : EncodedLength.Statement .illegal_EB := ⟨_, _, rfl, fun _ => rfl⟩
theorem EncodedLength.illegal_EC : EncodedLength.Statement .illegal_EC := ⟨_, _, rfl, fun _ => rfl⟩
theorem EncodedLength.illegal_ED : EncodedLength.Statement .illegal_ED := ⟨_, _, rfl, fun _ => rfl⟩
theorem EncodedLength.xor_n (n : Byte) : EncodedLength.Statement (.xor_n n) := ⟨_, _, rfl, fun _ => rfl⟩
theorem EncodedLength.rst_28 : EncodedLength.Statement .rst_28 := ⟨_, _, rfl, fun _ => rfl⟩
theorem EncodedLength.ldh_A_mn (n : Byte) : EncodedLength.Statement (.ldh_A_mn n) := ⟨_, _, rfl, fun _ => rfl⟩
theorem EncodedLength.pop_AF : EncodedLength.Statement .pop_AF := ⟨_, _, rfl, fun _ => rfl⟩
theorem EncodedLength.ldh_A_mC : EncodedLength.Statement .ldh_A_mC := ⟨_, _, rfl, fun _ => rfl⟩
theorem EncodedLength.di : EncodedLength.Statement .di := ⟨_, _, rfl, fun _ => rfl⟩
theorem EncodedLength.illegal_F4 : EncodedLength.Statement .illegal_F4 := ⟨_, _, rfl, fun _ => rfl⟩
theorem EncodedLength.push_AF : EncodedLength.Statement .push_AF := ⟨_, _, rfl, fun _ => rfl⟩
theorem EncodedLength.or_n (n : Byte) : EncodedLength.Statement (.or_n n) := ⟨_, _, rfl, fun _ => rfl⟩
theorem EncodedLength.rst_30 : EncodedLength.Statement .rst_30 := ⟨_, _, rfl, fun _ => rfl⟩
theorem EncodedLength.ld_HL_SPe (e : Byte) : EncodedLength.Statement (.ld_HL_SPe e) := ⟨_, _, rfl, fun _ => rfl⟩
theorem EncodedLength.ld_SP_HL : EncodedLength.Statement .ld_SP_HL := ⟨_, _, rfl, fun _ => rfl⟩
theorem EncodedLength.ld_A_mnn (nn : Word) : EncodedLength.Statement (.ld_A_mnn nn) := ⟨_, _, rfl, fun _ => rfl⟩
theorem EncodedLength.ei : EncodedLength.Statement .ei := ⟨_, _, rfl, fun _ => rfl⟩
theorem EncodedLength.illegal_FC : EncodedLength.Statement .illegal_FC := ⟨_, _, rfl, fun _ => rfl⟩
theorem EncodedLength.illegal_FD : EncodedLength.Statement .illegal_FD := ⟨_, _, rfl, fun _ => rfl⟩
theorem EncodedLength.cp_n (n : Byte) : EncodedLength.Statement (.cp_n n) := ⟨_, _, rfl, fun _ => rfl⟩
theorem EncodedLength.rst_38 : EncodedLength.Statement .rst_38 := ⟨_, _, rfl, fun _ => rfl⟩
theorem EncodedLength.rlc_B : EncodedLength.Statement .rlc_B := ⟨_, _, rfl, fun _ => rfl⟩
theorem EncodedLength.rlc_C : EncodedLength.Statement .rlc_C := ⟨_, _, rfl, fun _ => rfl⟩
theorem EncodedLength.rlc_D : EncodedLength.Statement .rlc_D := ⟨_, _, rfl, fun _ => rfl⟩
theorem EncodedLength.rlc_E : EncodedLength.Statement .rlc_E := ⟨_, _, rfl, fun _ => rfl⟩
theorem EncodedLength.rlc_H : EncodedLength.Statement .rlc_H := ⟨_, _, rfl, fun _ => rfl⟩
theorem EncodedLength.rlc_L : EncodedLength.Statement .rlc_L := ⟨_, _, rfl, fun _ => rfl⟩
theorem EncodedLength.rlc_mHL : EncodedLength.Statement .rlc_mHL := ⟨_, _, rfl, fun _ => rfl⟩
theorem EncodedLength.rlc_A : EncodedLength.Statement .rlc_A := ⟨_, _, rfl, fun _ => rfl⟩
theorem EncodedLength.rrc_B : EncodedLength.Statement .rrc_B := ⟨_, _, rfl, fun _ => rfl⟩
theorem EncodedLength.rrc_C : EncodedLength.Statement .rrc_C := ⟨_, _, rfl, fun _ => rfl⟩
theorem EncodedLength.rrc_D : EncodedLength.Statement .rrc_D := ⟨_, _, rfl, fun _ => rfl⟩
theorem EncodedLength.rrc_E : EncodedLength.Statement .rrc_E := ⟨_, _, rfl, fun _ => rfl⟩
theorem EncodedLength.rrc_H : EncodedLength.Statement .rrc_H := ⟨_, _, rfl, fun _ => rfl⟩
theorem EncodedLength.rrc_L : EncodedLength.Statement .rrc_L := ⟨_, _, rfl, fun _ => rfl⟩
theorem EncodedLength.rrc_mHL : EncodedLength.Statement .rrc_mHL := ⟨_, _, rfl, fun _ => rfl⟩
theorem EncodedLength.rrc_A : EncodedLength.Statement .rrc_A := ⟨_, _, rfl, fun _ => rfl⟩
theorem EncodedLength.rl_B : EncodedLength.Statement .rl_B := ⟨_, _, rfl, fun _ => rfl⟩
theorem EncodedLength.rl_C : EncodedLength.Statement .rl_C := ⟨_, _, rfl, fun _ => rfl⟩
theorem EncodedLength.rl_D : EncodedLength.Statement .rl_D := ⟨_, _, rfl, fun _ => rfl⟩
theorem EncodedLength.rl_E : EncodedLength.Statement .rl_E := ⟨_, _, rfl, fun _ => rfl⟩
theorem EncodedLength.rl_H : EncodedLength.Statement .rl_H := ⟨_, _, rfl, fun _ => rfl⟩
theorem EncodedLength.rl_L : EncodedLength.Statement .rl_L := ⟨_, _, rfl, fun _ => rfl⟩
theorem EncodedLength.rl_mHL : EncodedLength.Statement .rl_mHL := ⟨_, _, rfl, fun _ => rfl⟩
theorem EncodedLength.rl_A : EncodedLength.Statement .rl_A := ⟨_, _, rfl, fun _ => rfl⟩
theorem EncodedLength.rr_B : EncodedLength.Statement .rr_B := ⟨_, _, rfl, fun _ => rfl⟩
theorem EncodedLength.rr_C : EncodedLength.Statement .rr_C := ⟨_, _, rfl, fun _ => rfl⟩
theorem EncodedLength.rr_D : EncodedLength.Statement .rr_D := ⟨_, _, rfl, fun _ => rfl⟩
theorem EncodedLength.rr_E : EncodedLength.Statement .rr_E := ⟨_, _, rfl, fun _ => rfl⟩
theorem EncodedLength.rr_H : EncodedLength.Statement .rr_H := ⟨_, _, rfl, fun _ => rfl⟩
theorem EncodedLength.rr_L : EncodedLength.Statement .rr_L := ⟨_, _, rfl, fun _ => rfl⟩
theorem EncodedLength.rr_mHL : EncodedLength.Statement .rr_mHL := ⟨_, _, rfl, fun _ => rfl⟩
theorem EncodedLength.rr_A : EncodedLength.Statement .rr_A := ⟨_, _, rfl, fun _ => rfl⟩
theorem EncodedLength.sla_B : EncodedLength.Statement .sla_B := ⟨_, _, rfl, fun _ => rfl⟩
theorem EncodedLength.sla_C : EncodedLength.Statement .sla_C := ⟨_, _, rfl, fun _ => rfl⟩
theorem EncodedLength.sla_D : EncodedLength.Statement .sla_D := ⟨_, _, rfl, fun _ => rfl⟩
theorem EncodedLength.sla_E : EncodedLength.Statement .sla_E := ⟨_, _, rfl, fun _ => rfl⟩
theorem EncodedLength.sla_H : EncodedLength.Statement .sla_H := ⟨_, _, rfl, fun _ => rfl⟩
theorem EncodedLength.sla_L : EncodedLength.Statement .sla_L := ⟨_, _, rfl, fun _ => rfl⟩
theorem EncodedLength.sla_mHL : EncodedLength.Statement .sla_mHL := ⟨_, _, rfl, fun _ => rfl⟩
theorem EncodedLength.sla_A : EncodedLength.Statement .sla_A := ⟨_, _, rfl, fun _ => rfl⟩
theorem EncodedLength.sra_B : EncodedLength.Statement .sra_B := ⟨_, _, rfl, fun _ => rfl⟩
theorem EncodedLength.sra_C : EncodedLength.Statement .sra_C := ⟨_, _, rfl, fun _ => rfl⟩
theorem EncodedLength.sra_D : EncodedLength.Statement .sra_D := ⟨_, _, rfl, fun _ => rfl⟩
theorem EncodedLength.sra_E : EncodedLength.Statement .sra_E := ⟨_, _, rfl, fun _ => rfl⟩
theorem EncodedLength.sra_H : EncodedLength.Statement .sra_H := ⟨_, _, rfl, fun _ => rfl⟩
theorem EncodedLength.sra_L : EncodedLength.Statement .sra_L := ⟨_, _, rfl, fun _ => rfl⟩
theorem EncodedLength.sra_mHL : EncodedLength.Statement .sra_mHL := ⟨_, _, rfl, fun _ => rfl⟩
theorem EncodedLength.sra_A : EncodedLength.Statement .sra_A := ⟨_, _, rfl, fun _ => rfl⟩
theorem EncodedLength.swap_B : EncodedLength.Statement .swap_B := ⟨_, _, rfl, fun _ => rfl⟩
theorem EncodedLength.swap_C : EncodedLength.Statement .swap_C := ⟨_, _, rfl, fun _ => rfl⟩
theorem EncodedLength.swap_D : EncodedLength.Statement .swap_D := ⟨_, _, rfl, fun _ => rfl⟩
theorem EncodedLength.swap_E : EncodedLength.Statement .swap_E := ⟨_, _, rfl, fun _ => rfl⟩
theorem EncodedLength.swap_H : EncodedLength.Statement .swap_H := ⟨_, _, rfl, fun _ => rfl⟩
theorem EncodedLength.swap_L : EncodedLength.Statement .swap_L := ⟨_, _, rfl, fun _ => rfl⟩
theorem EncodedLength.swap_mHL : EncodedLength.Statement .swap_mHL := ⟨_, _, rfl, fun _ => rfl⟩
theorem EncodedLength.swap_A : EncodedLength.Statement .swap_A := ⟨_, _, rfl, fun _ => rfl⟩
theorem EncodedLength.srl_B : EncodedLength.Statement .srl_B := ⟨_, _, rfl, fun _ => rfl⟩
theorem EncodedLength.srl_C : EncodedLength.Statement .srl_C := ⟨_, _, rfl, fun _ => rfl⟩
theorem EncodedLength.srl_D : EncodedLength.Statement .srl_D := ⟨_, _, rfl, fun _ => rfl⟩
theorem EncodedLength.srl_E : EncodedLength.Statement .srl_E := ⟨_, _, rfl, fun _ => rfl⟩
theorem EncodedLength.srl_H : EncodedLength.Statement .srl_H := ⟨_, _, rfl, fun _ => rfl⟩
theorem EncodedLength.srl_L : EncodedLength.Statement .srl_L := ⟨_, _, rfl, fun _ => rfl⟩
theorem EncodedLength.srl_mHL : EncodedLength.Statement .srl_mHL := ⟨_, _, rfl, fun _ => rfl⟩
theorem EncodedLength.srl_A : EncodedLength.Statement .srl_A := ⟨_, _, rfl, fun _ => rfl⟩
theorem EncodedLength.bit_0_B : EncodedLength.Statement .bit_0_B := ⟨_, _, rfl, fun _ => rfl⟩
theorem EncodedLength.bit_0_C : EncodedLength.Statement .bit_0_C := ⟨_, _, rfl, fun _ => rfl⟩
theorem EncodedLength.bit_0_D : EncodedLength.Statement .bit_0_D := ⟨_, _, rfl, fun _ => rfl⟩
theorem EncodedLength.bit_0_E : EncodedLength.Statement .bit_0_E := ⟨_, _, rfl, fun _ => rfl⟩
theorem EncodedLength.bit_0_H : EncodedLength.Statement .bit_0_H := ⟨_, _, rfl, fun _ => rfl⟩
theorem EncodedLength.bit_0_L : EncodedLength.Statement .bit_0_L := ⟨_, _, rfl, fun _ => rfl⟩
theorem EncodedLength.bit_0_mHL : EncodedLength.Statement .bit_0_mHL := ⟨_, _, rfl, fun _ => rfl⟩
theorem EncodedLength.bit_0_A : EncodedLength.Statement .bit_0_A := ⟨_, _, rfl, fun _ => rfl⟩
theorem EncodedLength.bit_1_B : EncodedLength.Statement .bit_1_B := ⟨_, _, rfl, fun _ => rfl⟩
theorem EncodedLength.bit_1_C : EncodedLength.Statement .bit_1_C := ⟨_, _, rfl, fun _ => rfl⟩
theorem EncodedLength.bit_1_D : EncodedLength.Statement .bit_1_D := ⟨_, _, rfl, fun _ => rfl⟩
theorem EncodedLength.bit_1_E : EncodedLength.Statement .bit_1_E := ⟨_, _, rfl, fun _ => rfl⟩
theorem EncodedLength.bit_1_H : EncodedLength.Statement .bit_1_H := ⟨_, _, rfl, fun _ => rfl⟩
theorem EncodedLength.bit_1_L : EncodedLength.Statement .bit_1_L := ⟨_, _, rfl, fun _ => rfl⟩
theorem EncodedLength.bit_1_mHL : EncodedLength.Statement .bit_1_mHL := ⟨_, _, rfl, fun _ => rfl⟩
theorem EncodedLength.bit_1_A : EncodedLength.Statement .bit_1_A := ⟨_, _, rfl, fun _ => rfl⟩
theorem EncodedLength.bit_2_B : EncodedLength.Statement .bit_2_B := ⟨_, _, rfl, fun _ => rfl⟩
theorem EncodedLength.bit_2_C : EncodedLength.Statement .bit_2_C := ⟨_, _, rfl, fun _ => rfl⟩
theorem EncodedLength.bit_2_D : EncodedLength.Statement .bit_2_D := ⟨_, _, rfl, fun _ => rfl⟩
theorem EncodedLength.bit_2_E : EncodedLength.Statement .bit_2_E := ⟨_, _, rfl, fun _ => rfl⟩
theorem EncodedLength.bit_2_H : EncodedLength.Statement .bit_2_H := ⟨_, _, rfl, fun _ => rfl⟩
theorem EncodedLength.bit_2_L : EncodedLength.Statement .bit_2_L := ⟨_, _, rfl, fun _ => rfl⟩
theorem EncodedLength.bit_2_mHL : EncodedLength.Statement .bit_2_mHL := ⟨_, _, rfl, fun _ => rfl⟩
theorem EncodedLength.bit_2_A : EncodedLength.Statement .bit_2_A := ⟨_, _, rfl, fun _ => rfl⟩
theorem EncodedLength.bit_3_B : EncodedLength.Statement .bit_3_B := ⟨_, _, rfl, fun _ => rfl⟩
theorem EncodedLength.bit_3_C : EncodedLength.Statement .bit_3_C := ⟨_, _, rfl, fun _ => rfl⟩
theorem EncodedLength.bit_3_D : EncodedLength.Statement .bit_3_D := ⟨_, _, rfl, fun _ => rfl⟩
theorem EncodedLength.bit_3_E : EncodedLength.Statement .bit_3_E := ⟨_, _, rfl, fun _ => rfl⟩
theorem EncodedLength.bit_3_H : EncodedLength.Statement .bit_3_H := ⟨_, _, rfl, fun _ => rfl⟩
theorem EncodedLength.bit_3_L : EncodedLength.Statement .bit_3_L := ⟨_, _, rfl, fun _ => rfl⟩
theorem EncodedLength.bit_3_mHL : EncodedLength.Statement .bit_3_mHL := ⟨_, _, rfl, fun _ => rfl⟩
theorem EncodedLength.bit_3_A : EncodedLength.Statement .bit_3_A := ⟨_, _, rfl, fun _ => rfl⟩
theorem EncodedLength.bit_4_B : EncodedLength.Statement .bit_4_B := ⟨_, _, rfl, fun _ => rfl⟩
theorem EncodedLength.bit_4_C : EncodedLength.Statement .bit_4_C := ⟨_, _, rfl, fun _ => rfl⟩
theorem EncodedLength.bit_4_D : EncodedLength.Statement .bit_4_D := ⟨_, _, rfl, fun _ => rfl⟩
theorem EncodedLength.bit_4_E : EncodedLength.Statement .bit_4_E := ⟨_, _, rfl, fun _ => rfl⟩
theorem EncodedLength.bit_4_H : EncodedLength.Statement .bit_4_H := ⟨_, _, rfl, fun _ => rfl⟩
theorem EncodedLength.bit_4_L : EncodedLength.Statement .bit_4_L := ⟨_, _, rfl, fun _ => rfl⟩
theorem EncodedLength.bit_4_mHL : EncodedLength.Statement .bit_4_mHL := ⟨_, _, rfl, fun _ => rfl⟩
theorem EncodedLength.bit_4_A : EncodedLength.Statement .bit_4_A := ⟨_, _, rfl, fun _ => rfl⟩
theorem EncodedLength.bit_5_B : EncodedLength.Statement .bit_5_B := ⟨_, _, rfl, fun _ => rfl⟩
theorem EncodedLength.bit_5_C : EncodedLength.Statement .bit_5_C := ⟨_, _, rfl, fun _ => rfl⟩
theorem EncodedLength.bit_5_D : EncodedLength.Statement .bit_5_D := ⟨_, _, rfl, fun _ => rfl⟩
theorem EncodedLength.bit_5_E : EncodedLength.Statement .bit_5_E := ⟨_, _, rfl, fun _ => rfl⟩
theorem EncodedLength.bit_5_H : EncodedLength.Statement .bit_5_H := ⟨_, _, rfl, fun _ => rfl⟩
theorem EncodedLength.bit_5_L : EncodedLength.Statement .bit_5_L := ⟨_, _, rfl, fun _ => rfl⟩
theorem EncodedLength.bit_5_mHL : EncodedLength.Statement .bit_5_mHL := ⟨_, _, rfl, fun _ => rfl⟩
theorem EncodedLength.bit_5_A : EncodedLength.Statement .bit_5_A := ⟨_, _, rfl, fun _ => rfl⟩
theorem EncodedLength.bit_6_B : EncodedLength.Statement .bit_6_B := ⟨_, _, rfl, fun _ => rfl⟩
theorem EncodedLength.bit_6_C : EncodedLength.Statement .bit_6_C := ⟨_, _, rfl, fun _ => rfl⟩
theorem EncodedLength.bit_6_D : EncodedLength.Statement .bit_6_D := ⟨_, _, rfl, fun _ => rfl⟩
theorem EncodedLength.bit_6_E : EncodedLength.Statement .bit_6_E := ⟨_, _, rfl, fun _ => rfl⟩
theorem EncodedLength.bit_6_H : EncodedLength.Statement .bit_6_H := ⟨_, _, rfl, fun _ => rfl⟩
theorem EncodedLength.bit_6_L : EncodedLength.Statement .bit_6_L := ⟨_, _, rfl, fun _ => rfl⟩
theorem EncodedLength.bit_6_mHL : EncodedLength.Statement .bit_6_mHL := ⟨_, _, rfl, fun _ => rfl⟩
theorem EncodedLength.bit_6_A : EncodedLength.Statement .bit_6_A := ⟨_, _, rfl, fun _ => rfl⟩
theorem EncodedLength.bit_7_B : EncodedLength.Statement .bit_7_B := ⟨_, _, rfl, fun _ => rfl⟩
theorem EncodedLength.bit_7_C : EncodedLength.Statement .bit_7_C := ⟨_, _, rfl, fun _ => rfl⟩
theorem EncodedLength.bit_7_D : EncodedLength.Statement .bit_7_D := ⟨_, _, rfl, fun _ => rfl⟩
theorem EncodedLength.bit_7_E : EncodedLength.Statement .bit_7_E := ⟨_, _, rfl, fun _ => rfl⟩
theorem EncodedLength.bit_7_H : EncodedLength.Statement .bit_7_H := ⟨_, _, rfl, fun _ => rfl⟩
theorem EncodedLength.bit_7_L : EncodedLength.Statement .bit_7_L := ⟨_, _, rfl, fun _ => rfl⟩
theorem EncodedLength.bit_7_mHL : EncodedLength.Statement .bit_7_mHL := ⟨_, _, rfl, fun _ => rfl⟩
theorem EncodedLength.bit_7_A : EncodedLength.Statement .bit_7_A := ⟨_, _, rfl, fun _ => rfl⟩
theorem EncodedLength.res_0_B : EncodedLength.Statement .res_0_B := ⟨_, _, rfl, fun _ => rfl⟩
theorem EncodedLength.res_0_C : EncodedLength.Statement .res_0_C := ⟨_, _, rfl, fun _ => rfl⟩
theorem EncodedLength.res_0_D : EncodedLength.Statement .res_0_D := ⟨_, _, rfl, fun _ => rfl⟩
theorem EncodedLength.res_0_E : EncodedLength.Statement .res_0_E := ⟨_, _, rfl, fun _ => rfl⟩
theorem EncodedLength.res_0_H : EncodedLength.Statement .res_0_H := ⟨_, _, rfl, fun _ => rfl⟩
theorem EncodedLength.res_0_L : EncodedLength.Statement .res_0_L := ⟨_, _, rfl, fun _ => rfl⟩
theorem EncodedLength.res_0_mHL : EncodedLength.Statement .res_0_mHL := ⟨_, _, rfl, fun _ => rfl⟩
theorem EncodedLength.res_0_A : EncodedLength.Statement .res_0_A := ⟨_, _, rfl, fun _ => rfl⟩
theorem EncodedLength.res_1_B : EncodedLength.Statement .res_1_B := ⟨_, _, rfl, fun _ => rfl⟩
theorem EncodedLength.res_1_C : EncodedLength.Statement .res_1_C := ⟨_, _, rfl, fun _ => rfl⟩
theorem EncodedLength.res_1_D : EncodedLength.Statement .res_1_D := ⟨_, _, rfl, fun _ => rfl⟩
theorem EncodedLength.res_1_E : EncodedLength.Statement .res_1_E := ⟨_, _, rfl, fun _ => rfl⟩
theorem EncodedLength.res_1_H : EncodedLength.Statement .res_1_H := ⟨_, _, rfl, fun _ => rfl⟩
theorem EncodedLength.res_1_L : EncodedLength.Statement .res_1_L := ⟨_, _, rfl, fun _ => rfl⟩
theorem EncodedLength.res_1_mHL : EncodedLength.Statement .res_1_mHL := ⟨_, _, rfl, fun _ => rfl⟩
theorem EncodedLength.res_1_A : EncodedLength.Statement .res_1_A := ⟨_, _, rfl, fun _ => rfl⟩
theorem EncodedLength.res_2_B : EncodedLength.Statement .res_2_B := ⟨_, _, rfl, fun _ => rfl⟩
theorem EncodedLength.res_2_C : EncodedLength.Statement .res_2_C := ⟨_, _, rfl, fun _ => rfl⟩
theorem EncodedLength.res_2_D : EncodedLength.Statement .res_2_D := ⟨_, _, rfl, fun _ => rfl⟩
theorem EncodedLength.res_2_E : EncodedLength.Statement .res_2_E := ⟨_, _, rfl, fun _ => rfl⟩
theorem EncodedLength.res_2_H : EncodedLength.Statement .res_2_H := ⟨_, _, rfl, fun _ => rfl⟩
theorem EncodedLength.res_2_L : EncodedLength.Statement .res_2_L := ⟨_, _, rfl, fun _ => rfl⟩
theorem EncodedLength.res_2_mHL : EncodedLength.Statement .res_2_mHL := ⟨_, _, rfl, fun _ => rfl⟩
theorem EncodedLength.res_2_A : EncodedLength.Statement .res_2_A := ⟨_, _, rfl, fun _ => rfl⟩
theorem EncodedLength.res_3_B : EncodedLength.Statement .res_3_B := ⟨_, _, rfl, fun _ => rfl⟩
theorem EncodedLength.res_3_C : EncodedLength.Statement .res_3_C := ⟨_, _, rfl, fun _ => rfl⟩
theorem EncodedLength.res_3_D : EncodedLength.Statement .res_3_D := ⟨_, _, rfl, fun _ => rfl⟩
theorem EncodedLength.res_3_E : EncodedLength.Statement .res_3_E := ⟨_, _, rfl, fun _ => rfl⟩
theorem EncodedLength.res_3_H : EncodedLength.Statement .res_3_H := ⟨_, _, rfl, fun _ => rfl⟩
theorem EncodedLength.res_3_L : EncodedLength.Statement .res_3_L := ⟨_, _, rfl, fun _ => rfl⟩
theorem EncodedLength.res_3_mHL : EncodedLength.Statement .res_3_mHL := ⟨_, _, rfl, fun _ => rfl⟩
theorem EncodedLength.res_3_A : EncodedLength.Statement .res_3_A := ⟨_, _, rfl, fun _ => rfl⟩
theorem EncodedLength.res_4_B : EncodedLength.Statement .res_4_B := ⟨_, _, rfl, fun _ => rfl⟩
theorem EncodedLength.res_4_C : EncodedLength.Statement .res_4_C := ⟨_, _, rfl, fun _ => rfl⟩
theorem EncodedLength.res_4_D : EncodedLength.Statement .res_4_D := ⟨_, _, rfl, fun _ => rfl⟩
theorem EncodedLength.res_4_E : EncodedLength.Statement .res_4_E := ⟨_, _, rfl, fun _ => rfl⟩
theorem EncodedLength.res_4_H : EncodedLength.Statement .res_4_H := ⟨_, _, rfl, fun _ => rfl⟩
theorem EncodedLength.res_4_L : EncodedLength.Statement .res_4_L := ⟨_, _, rfl, fun _ => rfl⟩
theorem EncodedLength.res_4_mHL : EncodedLength.Statement .res_4_mHL := ⟨_, _, rfl, fun _ => rfl⟩
theorem EncodedLength.res_4_A : EncodedLength.Statement .res_4_A := ⟨_, _, rfl, fun _ => rfl⟩
theorem EncodedLength.res_5_B : EncodedLength.Statement .res_5_B := ⟨_, _, rfl, fun _ => rfl⟩
theorem EncodedLength.res_5_C : EncodedLength.Statement .res_5_C := ⟨_, _, rfl, fun _ => rfl⟩
theorem EncodedLength.res_5_D : EncodedLength.Statement .res_5_D := ⟨_, _, rfl, fun _ => rfl⟩
theorem EncodedLength.res_5_E : EncodedLength.Statement .res_5_E := ⟨_, _, rfl, fun _ => rfl⟩
theorem EncodedLength.res_5_H : EncodedLength.Statement .res_5_H := ⟨_, _, rfl, fun _ => rfl⟩
theorem EncodedLength.res_5_L : EncodedLength.Statement .res_5_L := ⟨_, _, rfl, fun _ => rfl⟩
theorem EncodedLength.res_5_mHL : EncodedLength.Statement .res_5_mHL := ⟨_, _, rfl, fun _ => rfl⟩
theorem EncodedLength.res_5_A : EncodedLength.Statement .res_5_A := ⟨_, _, rfl, fun _ => rfl⟩
theorem EncodedLength.res_6_B : EncodedLength.Statement .res_6_B := ⟨_, _, rfl, fun _ => rfl⟩
theorem EncodedLength.res_6_C : EncodedLength.Statement .res_6_C := ⟨_, _, rfl, fun _ => rfl⟩
theorem EncodedLength.res_6_D : EncodedLength.Statement .res_6_D := ⟨_, _, rfl, fun _ => rfl⟩
theorem EncodedLength.res_6_E : EncodedLength.Statement .res_6_E := ⟨_, _, rfl, fun _ => rfl⟩
theorem EncodedLength.res_6_H : EncodedLength.Statement .res_6_H := ⟨_, _, rfl, fun _ => rfl⟩
theorem EncodedLength.res_6_L : EncodedLength.Statement .res_6_L := ⟨_, _, rfl, fun _ => rfl⟩
theorem EncodedLength.res_6_mHL : EncodedLength.Statement .res_6_mHL := ⟨_, _, rfl, fun _ => rfl⟩
theorem EncodedLength.res_6_A : EncodedLength.Statement .res_6_A := ⟨_, _, rfl, fun _ => rfl⟩
theorem EncodedLength.res_7_B : EncodedLength.Statement .res_7_B := ⟨_, _, rfl, fun _ => rfl⟩
theorem EncodedLength.res_7_C : EncodedLength.Statement .res_7_C := ⟨_, _, rfl, fun _ => rfl⟩
theorem EncodedLength.res_7_D : EncodedLength.Statement .res_7_D := ⟨_, _, rfl, fun _ => rfl⟩
theorem EncodedLength.res_7_E : EncodedLength.Statement .res_7_E := ⟨_, _, rfl, fun _ => rfl⟩
theorem EncodedLength.res_7_H : EncodedLength.Statement .res_7_H := ⟨_, _, rfl, fun _ => rfl⟩
theorem EncodedLength.res_7_L : EncodedLength.Statement .res_7_L := ⟨_, _, rfl, fun _ => rfl⟩
theorem EncodedLength.res_7_mHL : EncodedLength.Statement .res_7_mHL := ⟨_, _, rfl, fun _ => rfl⟩
theorem EncodedLength.res_7_A : EncodedLength.Statement .res_7_A := ⟨_, _, rfl, fun _ => rfl⟩
theorem EncodedLength.set_0_B : EncodedLength.Statement .set_0_B := ⟨_, _, rfl, fun _ => rfl⟩
theorem EncodedLength.set_0_C : EncodedLength.Statement .set_0_C := ⟨_, _, rfl, fun _ => rfl⟩
theorem EncodedLength.set_0_D : EncodedLength.Statement .set_0_D := ⟨_, _, rfl, fun _ => rfl⟩
theorem EncodedLength.set_0_E : EncodedLength.Statement .set_0_E := ⟨_, _, rfl, fun _ => rfl⟩
theorem EncodedLength.set_0_H : EncodedLength.Statement .set_0_H := ⟨_, _, rfl, fun _ => rfl⟩
theorem EncodedLength.set_0_L : EncodedLength.Statement .set_0_L := ⟨_, _, rfl, fun _ => rfl⟩
theorem EncodedLength.set_0_mHL : EncodedLength.Statement .set_0_mHL := ⟨_, _, rfl, fun _ => rfl⟩
theorem EncodedLength.set_0_A : EncodedLength.Statement .set_0_A := ⟨_, _, rfl, fun _ => rfl⟩
theorem EncodedLength.set_1_B : EncodedLength.Statement .set_1_B := ⟨_, _, rfl, fun _ => rfl⟩
theorem EncodedLength.set_1_C : EncodedLength.Statement .set_1_C := ⟨_, _, rfl, fun _ => rfl⟩
theorem EncodedLength.set_1_D : EncodedLength.Statement .set_1_D := ⟨_, _, rfl, fun _ => rfl⟩
theorem EncodedLength.set_1_E : EncodedLength.Statement .set_1_E := ⟨_, _, rfl, fun _ => rfl⟩
theorem EncodedLength.set_1_H : EncodedLength.Statement .set_1_H := ⟨_, _, rfl, fun _ => rfl⟩
theorem EncodedLength.set_1_L : EncodedLength.Statement .set_1_L := ⟨_, _, rfl, fun _ => rfl⟩
theorem EncodedLength.set_1_mHL : EncodedLength.Statement .set_1_mHL := ⟨_, _, rfl, fun _ => rfl⟩
theorem EncodedLength.set_1_A : EncodedLength.Statement .set_1_A := ⟨_, _, rfl, fun _ => rfl⟩
theorem EncodedLength.set_2_B : EncodedLength.Statement .set_2_B := ⟨_, _, rfl, fun _ => rfl⟩
theorem EncodedLength.set_2_C : EncodedLength.Statement .set_2_C := ⟨_, _, rfl, fun _ => rfl⟩
theorem EncodedLength.set_2_D : EncodedLength.Statement .set_2_D := ⟨_, _, rfl, fun _ => rfl⟩
theorem EncodedLength.set_2_E : EncodedLength.Statement .set_2_E := ⟨_, _, rfl, fun _ => rfl⟩
theorem EncodedLength.set_2_H : EncodedLength.Statement .set_2_H := ⟨_, _, rfl, fun _ => rfl⟩
theorem EncodedLength.set_2_L : EncodedLength.Statement .set_2_L := ⟨_, _, rfl, fun _ => rfl⟩
theorem EncodedLength.set_2_mHL : EncodedLength.Statement .set_2_mHL := ⟨_, _, rfl, fun _ => rfl⟩
theorem EncodedLength.set_2_A : EncodedLength.Statement .set_2_A := ⟨_, _, rfl, fun _ => rfl⟩
theorem EncodedLength.set_3_B : EncodedLength.Statement .set_3_B := ⟨_, _, rfl, fun _ => rfl⟩
theorem EncodedLength.set_3_C : EncodedLength.Statement .set_3_C := ⟨_, _, rfl, fun _ => rfl⟩
theorem EncodedLength.set_3_D : EncodedLength.Statement .set_3_D := ⟨_, _, rfl, fun _ => rfl⟩
theorem EncodedLength.set_3_E : EncodedLength.Statement .set_3_E := ⟨_, _, rfl, fun _ => rfl⟩
theorem EncodedLength.set_3_H : EncodedLength.Statement .set_3_H := ⟨_, _, rfl, fun _ => rfl⟩
theorem EncodedLength.set_3_L : EncodedLength.Statement .set_3_L := ⟨_, _, rfl, fun _ => rfl⟩
theorem EncodedLength.set_3_mHL : EncodedLength.Statement .set_3_mHL := ⟨_, _, rfl, fun _ => rfl⟩
theorem EncodedLength.set_3_A : EncodedLength.Statement .set_3_A := ⟨_, _, rfl, fun _ => rfl⟩
theorem EncodedLength.set_4_B : EncodedLength.Statement .set_4_B := ⟨_, _, rfl, fun _ => rfl⟩
theorem EncodedLength.set_4_C : EncodedLength.Statement .set_4_C := ⟨_, _, rfl, fun _ => rfl⟩
theorem EncodedLength.set_4_D : EncodedLength.Statement .set_4_D := ⟨_, _, rfl, fun _ => rfl⟩
theorem EncodedLength.set_4_E : EncodedLength.Statement .set_4_E := ⟨_, _, rfl, fun _ => rfl⟩
theorem EncodedLength.set_4_H : EncodedLength.Statement .set_4_H := ⟨_, _, rfl, fun _ => rfl⟩
theorem EncodedLength.set_4_L : EncodedLength.Statement .set_4_L := ⟨_, _, rfl, fun _ => rfl⟩
theorem EncodedLength.set_4_mHL : EncodedLength.Statement .set_4_mHL := ⟨_, _, rfl, fun _ => rfl⟩
theorem EncodedLength.set_4_A : EncodedLength.Statement .set_4_A := ⟨_, _, rfl, fun _ => rfl⟩
theorem EncodedLength.set_5_B : EncodedLength.Statement .set_5_B := ⟨_, _, rfl, fun _ => rfl⟩
theorem EncodedLength.set_5_C : EncodedLength.Statement .set_5_C := ⟨_, _, rfl, fun _ => rfl⟩
theorem EncodedLength.set_5_D : EncodedLength.Statement .set_5_D := ⟨_, _, rfl, fun _ => rfl⟩
theorem EncodedLength.set_5_E : EncodedLength.Statement .set_5_E := ⟨_, _, rfl, fun _ => rfl⟩
theorem EncodedLength.set_5_H : EncodedLength.Statement .set_5_H := ⟨_, _, rfl, fun _ => rfl⟩
theorem EncodedLength.set_5_L : EncodedLength.Statement .set_5_L := ⟨_, _, rfl, fun _ => rfl⟩
theorem EncodedLength.set_5_mHL : EncodedLength.Statement .set_5_mHL := ⟨_, _, rfl, fun _ => rfl⟩
theorem EncodedLength.set_5_A : EncodedLength.Statement .set_5_A := ⟨_, _, rfl, fun _ => rfl⟩
theorem EncodedLength.set_6_B : EncodedLength.Statement .set_6_B := ⟨_, _, rfl, fun _ => rfl⟩
theorem EncodedLength.set_6_C : EncodedLength.Statement .set_6_C := ⟨_, _, rfl, fun _ => rfl⟩
theorem EncodedLength.set_6_D : EncodedLength.Statement .set_6_D := ⟨_, _, rfl, fun _ => rfl⟩
theorem EncodedLength.set_6_E : EncodedLength.Statement .set_6_E := ⟨_, _, rfl, fun _ => rfl⟩
theorem EncodedLength.set_6_H : EncodedLength.Statement .set_6_H := ⟨_, _, rfl, fun _ => rfl⟩
theorem EncodedLength.set_6_L : EncodedLength.Statement .set_6_L := ⟨_, _, rfl, fun _ => rfl⟩
theorem EncodedLength.set_6_mHL : EncodedLength.Statement .set_6_mHL := ⟨_, _, rfl, fun _ => rfl⟩
theorem EncodedLength.set_6_A : EncodedLength.Statement .set_6_A := ⟨_, _, rfl, fun _ => rfl⟩
theorem EncodedLength.set_7_B : EncodedLength.Statement .set_7_B := ⟨_, _, rfl, fun _ => rfl⟩
theorem EncodedLength.set_7_C : EncodedLength.Statement .set_7_C := ⟨_, _, rfl, fun _ => rfl⟩
theorem EncodedLength.set_7_D : EncodedLength.Statement .set_7_D := ⟨_, _, rfl, fun _ => rfl⟩
theorem EncodedLength.set_7_E : EncodedLength.Statement .set_7_E := ⟨_, _, rfl, fun _ => rfl⟩
theorem EncodedLength.set_7_H : EncodedLength.Statement .set_7_H := ⟨_, _, rfl, fun _ => rfl⟩
theorem EncodedLength.set_7_L : EncodedLength.Statement .set_7_L := ⟨_, _, rfl, fun _ => rfl⟩
theorem EncodedLength.set_7_mHL : EncodedLength.Statement .set_7_mHL := ⟨_, _, rfl, fun _ => rfl⟩
theorem EncodedLength.set_7_A : EncodedLength.Statement .set_7_A := ⟨_, _, rfl, fun _ => rfl⟩

end Sys2Proof.Laws
end

