-- ==== Sys2Proof/Laws/Shape.lean ====
section
/-!
SUPPORT. The 512 meanings by shape: each is one of 44 shared operations on its arguments. A fact about every
instruction is proved by cases on the shape, once for each operation, and not 512 times.
-/
namespace Sys2Proof.Machine

/-- The operation a meaning is, with its arguments; an address or a result may depend on the state. -/
inductive Shape where
  | ldReg (op : Nat) (r r' : Reg8)
  | ldImm (op : Nat) (r : Reg8) (n : Byte)
  | ldFromMem (op : Nat) (r : Reg8)
  | ldToMem (op : Nat) (r : Reg8)
  | ldImmToMem (op : Nat) (n : Byte)
  | loadA (op len cost : Nat) (addr : State → Word)
  | storeA (op len cost : Nat) (addr : State → Word)
  | loadAStep (op : Nat) (d : Word)
  | storeAStep (op : Nat) (d : Word)
  | ldPair (op : Nat) (p : Reg16) (nn : Word)
  | ldHlSp (op : Nat) (e : Byte)
  | pushPair (op : Nat) (p : StackReg)
  | popPair (op : Nat) (p : StackReg)
  | alu (op : Nat) (k : AluOp) (x : Source)
  | incPlace (op : Nat) (x : Place)
  | decPlace (op : Nat) (x : Place)
  | accFlags (op : Nat) (f : State → Byte × Flags)
  | addHl (op : Nat) (p : Reg16)
  | stepPair (op : Nat) (p : Reg16) (d : Word)
  | addSp (op : Nat) (e : Byte)
  | rotateAcc (op : Nat) (k : RotOp)
  | rotatePlace (op : Nat) (k : RotOp) (x : Place)
  | testBit (op bit : Nat) (x : Place)
  | changeBit (op : Nat) (f : Byte → Byte) (x : Place)
  | jumpIf (op : Nat) (k : Cond) (nn : Word)
  | relativeIf (op : Nat) (k : Cond) (e : Byte)
  | callIf (op : Nat) (k : Cond) (nn : Word)
  | returnIf (op : Nat) (k : Cond)
  | restart (op y : Nat)
  | undefinedOpcode (op : Byte)
  | ldMnnSp (nn : Word)
  | ldSpHl
  | jp (nn : Word)
  | jpHl
  | jr (e : Byte)
  | call (nn : Word)
  | ret
  | reti
  | nop
  | halt
  | stop
  | di
  | ei
  | cb

/-- What a shape does. -/
def Shape.run : Shape → State → Host.Outcome State Fault Refusal
  | .ldReg op r r', s => Machine.ldReg op r r' s
  | .ldImm op r n, s => Machine.ldImm op r n s
  | .ldFromMem op r, s => Machine.ldFromMem op r s
  | .ldToMem op r, s => Machine.ldToMem op r s
  | .ldImmToMem op n, s => Machine.ldImmToMem op n s
  | .loadA op len cost addr, s => Machine.loadA op len cost (addr s) s
  | .storeA op len cost addr, s => Machine.storeA op len cost (addr s) s
  | .loadAStep op d, s => Machine.loadAStep op d s
  | .storeAStep op d, s => Machine.storeAStep op d s
  | .ldPair op p nn, s => Machine.ldPair op p nn s
  | .ldHlSp op e, s => Machine.ldHlSp op e s
  | .pushPair op p, s => Machine.pushPair op p s
  | .popPair op p, s => Machine.popPair op p s
  | .alu op k x, s => Machine.alu op k x s
  | .incPlace op x, s => Machine.incPlace op x s
  | .decPlace op x, s => Machine.decPlace op x s
  | .accFlags op f, s => Machine.accFlags op (f s) s
  | .addHl op p, s => Machine.addHl op p s
  | .stepPair op p d, s => Machine.stepPair op p d s
  | .addSp op e, s => Machine.addSp op e s
  | .rotateAcc op k, s => Machine.rotateAcc op k s
  | .rotatePlace op k x, s => Machine.rotatePlace op k x s
  | .testBit op bit x, s => Machine.testBit op bit x s
  | .changeBit op f x, s => Machine.changeBit op f x s
  | .jumpIf op k nn, s => Machine.jumpIf op k nn s
  | .relativeIf op k e, s => Machine.relativeIf op k e s
  | .callIf op k nn, s => Machine.callIf op k nn s
  | .returnIf op k, s => Machine.returnIf op k s
  | .restart op y, s => Machine.restart op y s
  | .undefinedOpcode op, s => Machine.undefinedOpcode op s
  | .ldMnnSp nn, s => execLd_mnn_SP nn s
  | .ldSpHl, s => execLd_SP_HL s
  | .jp nn, s => execJp_nn nn s
  | .jpHl, s => execJp_HL s
  | .jr e, s => execJr_e e s
  | .call nn, s => execCall_nn nn s
  | .ret, s => execRet s
  | .reti, s => execReti s
  | .nop, s => execNop s
  | .halt, s => execHalt s
  | .stop, s => execStop s
  | .di, s => execDi s
  | .ei, s => execEi s
  | .cb, s => execCbPrefix s

/-- The shape of an instruction. -/
def shapeOf : Instr → Shape
  | .nop => .nop
  | .ld_BC_nn nn => .ldPair 0x01 .bc nn
  | .ld_mBC_A => .storeA 0x02 1 2 (fun s => s.bc)
  | .inc_BC => .stepPair 0x03 .bc 1
  | .inc_B => .incPlace 0x04 (.reg .b)
  | .dec_B => .decPlace 0x05 (.reg .b)
  | .ld_B_n n => .ldImm 0x06 .b n
  | .rlca => .rotateAcc 0x07 .rlc
  | .ld_mnn_SP nn => .ldMnnSp nn
  | .add_HL_BC => .addHl 0x09 .bc
  | .ld_A_mBC => .loadA 0x0A 1 2 (fun s => s.bc)
  | .dec_BC => .stepPair 0x0B .bc (-1)
  | .inc_C => .incPlace 0x0C (.reg .c)
  | .dec_C => .decPlace 0x0D (.reg .c)
  | .ld_C_n n => .ldImm 0x0E .c n
  | .rrca => .rotateAcc 0x0F .rrc
  | .stop => .stop
  | .ld_DE_nn nn => .ldPair 0x11 .de nn
  | .ld_mDE_A => .storeA 0x12 1 2 (fun s => s.de)
  | .inc_DE => .stepPair 0x13 .de 1
  | .inc_D => .incPlace 0x14 (.reg .d)
  | .dec_D => .decPlace 0x15 (.reg .d)
  | .ld_D_n n => .ldImm 0x16 .d n
  | .rla => .rotateAcc 0x17 .rl
  | .jr_e e => .jr e
  | .add_HL_DE => .addHl 0x19 .de
  | .ld_A_mDE => .loadA 0x1A 1 2 (fun s => s.de)
  | .dec_DE => .stepPair 0x1B .de (-1)
  | .inc_E => .incPlace 0x1C (.reg .e)
  | .dec_E => .decPlace 0x1D (.reg .e)
  | .ld_E_n n => .ldImm 0x1E .e n
  | .rra => .rotateAcc 0x1F .rr
  | .jr_NZ_e e => .relativeIf 0x20 .nz e
  | .ld_HL_nn nn => .ldPair 0x21 .hl nn
  | .ld_HLinc_A => .storeAStep 0x22 1
  | .inc_HL => .stepPair 0x23 .hl 1
  | .inc_H => .incPlace 0x24 (.reg .h)
  | .dec_H => .decPlace 0x25 (.reg .h)
  | .ld_H_n n => .ldImm 0x26 .h n
  | .daa => .accFlags 0x27 (fun s => (daaResult s.a s.flags))
  | .jr_Z_e e => .relativeIf 0x28 .z e
  | .add_HL_HL => .addHl 0x29 .hl
  | .ld_A_HLinc => .loadAStep 0x2A 1
  | .dec_HL => .stepPair 0x2B .hl (-1)
  | .inc_L => .incPlace 0x2C (.reg .l)
  | .dec_L => .decPlace 0x2D (.reg .l)
  | .ld_L_n n => .ldImm 0x2E .l n
  | .cpl => .accFlags 0x2F (fun s => (s.a ^^^ 0xFF, { s.flags with n := true, h := true }))
  | .jr_NC_e e => .relativeIf 0x30 .nc e
  | .ld_SP_nn nn => .ldPair 0x31 .sp nn
  | .ld_HLdec_A => .storeAStep 0x32 (-1)
  | .inc_SP => .stepPair 0x33 .sp 1
  | .inc_mHL => .incPlace 0x34 .memHL
  | .dec_mHL => .decPlace 0x35 .memHL
  | .ld_mHL_n n => .ldImmToMem 0x36 n
  | .scf => .accFlags 0x37 (fun s => (s.a, { s.flags with n := false, h := false, c := true }))
  | .jr_C_e e => .relativeIf 0x38 .c e
  | .add_HL_SP => .addHl 0x39 .sp
  | .ld_A_HLdec => .loadAStep 0x3A (-1)
  | .dec_SP => .stepPair 0x3B .sp (-1)
  | .inc_A => .incPlace 0x3C (.reg .a)
  | .dec_A => .decPlace 0x3D (.reg .a)
  | .ld_A_n n => .ldImm 0x3E .a n
  | .ccf => .accFlags 0x3F (fun s => (s.a, { s.flags with n := false, h := false, c := !s.flags.c }))
  | .ld_B_B => .ldReg 0x40 .b .b
  | .ld_B_C => .ldReg 0x41 .b .c
  | .ld_B_D => .ldReg 0x42 .b .d
  | .ld_B_E => .ldReg 0x43 .b .e
  | .ld_B_H => .ldReg 0x44 .b .h
  | .ld_B_L => .ldReg 0x45 .b .l
  | .ld_B_mHL => .ldFromMem 0x46 .b
  | .ld_B_A => .ldReg 0x47 .b .a
  | .ld_C_B => .ldReg 0x48 .c .b
  | .ld_C_C => .ldReg 0x49 .c .c
  | .ld_C_D => .ldReg 0x4A .c .d
  | .ld_C_E => .ldReg 0x4B .c .e
  | .ld_C_H => .ldReg 0x4C .c .h
  | .ld_C_L => .ldReg 0x4D .c .l
  | .ld_C_mHL => .ldFromMem 0x4E .c
  | .ld_C_A => .ldReg 0x4F .c .a
  | .ld_D_B => .ldReg 0x50 .d .b
  | .ld_D_C => .ldReg 0x51 .d .c
  | .ld_D_D => .ldReg 0x52 .d .d
  | .ld_D_E => .ldReg 0x53 .d .e
  | .ld_D_H => .ldReg 0x54 .d .h
  | .ld_D_L => .ldReg 0x55 .d .l
  | .ld_D_mHL => .ldFromMem 0x56 .d
  | .ld_D_A => .ldReg 0x57 .d .a
  | .ld_E_B => .ldReg 0x58 .e .b
  | .ld_E_C => .ldReg 0x59 .e .c
  | .ld_E_D => .ldReg 0x5A .e .d
  | .ld_E_E => .ldReg 0x5B .e .e
  | .ld_E_H => .ldReg 0x5C .e .h
  | .ld_E_L => .ldReg 0x5D .e .l
  | .ld_E_mHL => .ldFromMem 0x5E .e
  | .ld_E_A => .ldReg 0x5F .e .a
  | .ld_H_B => .ldReg 0x60 .h .b
  | .ld_H_C => .ldReg 0x61 .h .c
  | .ld_H_D => .ldReg 0x62 .h .d
  | .ld_H_E => .ldReg 0x63 .h .e
  | .ld_H_H => .ldReg 0x64 .h .h
  | .ld_H_L => .ldReg 0x65 .h .l
  | .ld_H_mHL => .ldFromMem 0x66 .h
  | .ld_H_A => .ldReg 0x67 .h .a
  | .ld_L_B => .ldReg 0x68 .l .b
  | .ld_L_C => .ldReg 0x69 .l .c
  | .ld_L_D => .ldReg 0x6A .l .d
  | .ld_L_E => .ldReg 0x6B .l .e
  | .ld_L_H => .ldReg 0x6C .l .h
  | .ld_L_L => .ldReg 0x6D .l .l
  | .ld_L_mHL => .ldFromMem 0x6E .l
  | .ld_L_A => .ldReg 0x6F .l .a
  | .ld_mHL_B => .ldToMem 0x70 .b
  | .ld_mHL_C => .ldToMem 0x71 .c
  | .ld_mHL_D => .ldToMem 0x72 .d
  | .ld_mHL_E => .ldToMem 0x73 .e
  | .ld_mHL_H => .ldToMem 0x74 .h
  | .ld_mHL_L => .ldToMem 0x75 .l
  | .halt => .halt
  | .ld_mHL_A => .ldToMem 0x77 .a
  | .ld_A_B => .ldReg 0x78 .a .b
  | .ld_A_C => .ldReg 0x79 .a .c
  | .ld_A_D => .ldReg 0x7A .a .d
  | .ld_A_E => .ldReg 0x7B .a .e
  | .ld_A_H => .ldReg 0x7C .a .h
  | .ld_A_L => .ldReg 0x7D .a .l
  | .ld_A_mHL => .ldFromMem 0x7E .a
  | .ld_A_A => .ldReg 0x7F .a .a
  | .add_A_B => .alu 0x80 .add (.reg .b)
  | .add_A_C => .alu 0x81 .add (.reg .c)
  | .add_A_D => .alu 0x82 .add (.reg .d)
  | .add_A_E => .alu 0x83 .add (.reg .e)
  | .add_A_H => .alu 0x84 .add (.reg .h)
  | .add_A_L => .alu 0x85 .add (.reg .l)
  | .add_A_mHL => .alu 0x86 .add .memHL
  | .add_A_A => .alu 0x87 .add (.reg .a)
  | .adc_A_B => .alu 0x88 .adc (.reg .b)
  | .adc_A_C => .alu 0x89 .adc (.reg .c)
  | .adc_A_D => .alu 0x8A .adc (.reg .d)
  | .adc_A_E => .alu 0x8B .adc (.reg .e)
  | .adc_A_H => .alu 0x8C .adc (.reg .h)
  | .adc_A_L => .alu 0x8D .adc (.reg .l)
  | .adc_A_mHL => .alu 0x8E .adc .memHL
  | .adc_A_A => .alu 0x8F .adc (.reg .a)
  | .sub_B => .alu 0x90 .sub (.reg .b)
  | .sub_C => .alu 0x91 .sub (.reg .c)
  | .sub_D => .alu 0x92 .sub (.reg .d)
  | .sub_E => .alu 0x93 .sub (.reg .e)
  | .sub_H => .alu 0x94 .sub (.reg .h)
  | .sub_L => .alu 0x95 .sub (.reg .l)
  | .sub_mHL => .alu 0x96 .sub .memHL
  | .sub_A => .alu 0x97 .sub (.reg .a)
  | .sbc_A_B => .alu 0x98 .sbc (.reg .b)
  | .sbc_A_C => .alu 0x99 .sbc (.reg .c)
  | .sbc_A_D => .alu 0x9A .sbc (.reg .d)
  | .sbc_A_E => .alu 0x9B .sbc (.reg .e)
  | .sbc_A_H => .alu 0x9C .sbc (.reg .h)
  | .sbc_A_L => .alu 0x9D .sbc (.reg .l)
  | .sbc_A_mHL => .alu 0x9E .sbc .memHL
  | .sbc_A_A => .alu 0x9F .sbc (.reg .a)
  | .and_B => .alu 0xA0 .and (.reg .b)
  | .and_C => .alu 0xA1 .and (.reg .c)
  | .and_D => .alu 0xA2 .and (.reg .d)
  | .and_E => .alu 0xA3 .and (.reg .e)
  | .and_H => .alu 0xA4 .and (.reg .h)
  | .and_L => .alu 0xA5 .and (.reg .l)
  | .and_mHL => .alu 0xA6 .and .memHL
  | .and_A => .alu 0xA7 .and (.reg .a)
  | .xor_B => .alu 0xA8 .xor (.reg .b)
  | .xor_C => .alu 0xA9 .xor (.reg .c)
  | .xor_D => .alu 0xAA .xor (.reg .d)
  | .xor_E => .alu 0xAB .xor (.reg .e)
  | .xor_H => .alu 0xAC .xor (.reg .h)
  | .xor_L => .alu 0xAD .xor (.reg .l)
  | .xor_mHL => .alu 0xAE .xor .memHL
  | .xor_A => .alu 0xAF .xor (.reg .a)
  | .or_B => .alu 0xB0 .or (.reg .b)
  | .or_C => .alu 0xB1 .or (.reg .c)
  | .or_D => .alu 0xB2 .or (.reg .d)
  | .or_E => .alu 0xB3 .or (.reg .e)
  | .or_H => .alu 0xB4 .or (.reg .h)
  | .or_L => .alu 0xB5 .or (.reg .l)
  | .or_mHL => .alu 0xB6 .or .memHL
  | .or_A => .alu 0xB7 .or (.reg .a)
  | .cp_B => .alu 0xB8 .cp (.reg .b)
  | .cp_C => .alu 0xB9 .cp (.reg .c)
  | .cp_D => .alu 0xBA .cp (.reg .d)
  | .cp_E => .alu 0xBB .cp (.reg .e)
  | .cp_H => .alu 0xBC .cp (.reg .h)
  | .cp_L => .alu 0xBD .cp (.reg .l)
  | .cp_mHL => .alu 0xBE .cp .memHL
  | .cp_A => .alu 0xBF .cp (.reg .a)
  | .ret_NZ => .returnIf 0xC0 .nz
  | .pop_BC => .popPair 0xC1 .bc
  | .jp_NZ_nn nn => .jumpIf 0xC2 .nz nn
  | .jp_nn nn => .jp nn
  | .call_NZ_nn nn => .callIf 0xC4 .nz nn
  | .push_BC => .pushPair 0xC5 .bc
  | .add_A_n n => .alu 0xC6 .add (.imm n)
  | .rst_00 => .restart 0xC7 0
  | .ret_Z => .returnIf 0xC8 .z
  | .ret => .ret
  | .jp_Z_nn nn => .jumpIf 0xCA .z nn
  | .cbPrefix => .cb
  | .call_Z_nn nn => .callIf 0xCC .z nn
  | .call_nn nn => .call nn
  | .adc_A_n n => .alu 0xCE .adc (.imm n)
  | .rst_08 => .restart 0xCF 1
  | .ret_NC => .returnIf 0xD0 .nc
  | .pop_DE => .popPair 0xD1 .de
  | .jp_NC_nn nn => .jumpIf 0xD2 .nc nn
  | .illegal_D3 => .undefinedOpcode 0xD3
  | .call_NC_nn nn => .callIf 0xD4 .nc nn
  | .push_DE => .pushPair 0xD5 .de
  | .sub_n n => .alu 0xD6 .sub (.imm n)
  | .rst_10 => .restart 0xD7 2
  | .ret_C => .returnIf 0xD8 .c
  | .reti => .reti
  | .jp_C_nn nn => .jumpIf 0xDA .c nn
  | .illegal_DB => .undefinedOpcode 0xDB
  | .call_C_nn nn => .callIf 0xDC .c nn
  | .illegal_DD => .undefinedOpcode 0xDD
  | .sbc_A_n n => .alu 0xDE .sbc (.imm n)
  | .rst_18 => .restart 0xDF 3
  | .ldh_mn_A n => .storeA 0xE0 2 3 (fun _ => (highPage n))
  | .pop_HL => .popPair 0xE1 .hl
  | .ldh_mC_A => .storeA 0xE2 1 2 (fun s => (highPage s.c))
  | .illegal_E3 => .undefinedOpcode 0xE3
  | .illegal_E4 => .undefinedOpcode 0xE4
  | .push_HL => .pushPair 0xE5 .hl
  | .and_n n => .alu 0xE6 .and (.imm n)
  | .rst_20 => .restart 0xE7 4
  | .add_SP_e e => .addSp 0xE8 e
  | .jp_HL => .jpHl
  | .ld_mnn_A nn => .storeA 0xEA 3 4 (fun _ => nn)
  | .illegal_EB => .undefinedOpcode 0xEB
  | .illegal_EC => .undefinedOpcode 0xEC
  | .illegal_ED => .undefinedOpcode 0xED
  | .xor_n n => .alu 0xEE .xor (.imm n)
  | .rst_28 => .restart 0xEF 5
  | .ldh_A_mn n => .loadA 0xF0 2 3 (fun _ => (highPage n))
  | .pop_AF => .popPair 0xF1 .af
  | .ldh_A_mC => .loadA 0xF2 1 2 (fun s => (highPage s.c))
  | .di => .di
  | .illegal_F4 => .undefinedOpcode 0xF4
  | .push_AF => .pushPair 0xF5 .af
  | .or_n n => .alu 0xF6 .or (.imm n)
  | .rst_30 => .restart 0xF7 6
  | .ld_HL_SPe e => .ldHlSp 0xF8 e
  | .ld_SP_HL => .ldSpHl
  | .ld_A_mnn nn => .loadA 0xFA 3 4 (fun _ => nn)
  | .ei => .ei
  | .illegal_FC => .undefinedOpcode 0xFC
  | .illegal_FD => .undefinedOpcode 0xFD
  | .cp_n n => .alu 0xFE .cp (.imm n)
  | .rst_38 => .restart 0xFF 7
  | .rlc_B => .rotatePlace 0xCB00 .rlc (.reg .b)
  | .rlc_C => .rotatePlace 0xCB01 .rlc (.reg .c)
  | .rlc_D => .rotatePlace 0xCB02 .rlc (.reg .d)
  | .rlc_E => .rotatePlace 0xCB03 .rlc (.reg .e)
  | .rlc_H => .rotatePlace 0xCB04 .rlc (.reg .h)
  | .rlc_L => .rotatePlace 0xCB05 .rlc (.reg .l)
  | .rlc_mHL => .rotatePlace 0xCB06 .rlc .memHL
  | .rlc_A => .rotatePlace 0xCB07 .rlc (.reg .a)
  | .rrc_B => .rotatePlace 0xCB08 .rrc (.reg .b)
  | .rrc_C => .rotatePlace 0xCB09 .rrc (.reg .c)
  | .rrc_D => .rotatePlace 0xCB0A .rrc (.reg .d)
  | .rrc_E => .rotatePlace 0xCB0B .rrc (.reg .e)
  | .rrc_H => .rotatePlace 0xCB0C .rrc (.reg .h)
  | .rrc_L => .rotatePlace 0xCB0D .rrc (.reg .l)
  | .rrc_mHL => .rotatePlace 0xCB0E .rrc .memHL
  | .rrc_A => .rotatePlace 0xCB0F .rrc (.reg .a)
  | .rl_B => .rotatePlace 0xCB10 .rl (.reg .b)
  | .rl_C => .rotatePlace 0xCB11 .rl (.reg .c)
  | .rl_D => .rotatePlace 0xCB12 .rl (.reg .d)
  | .rl_E => .rotatePlace 0xCB13 .rl (.reg .e)
  | .rl_H => .rotatePlace 0xCB14 .rl (.reg .h)
  | .rl_L => .rotatePlace 0xCB15 .rl (.reg .l)
  | .rl_mHL => .rotatePlace 0xCB16 .rl .memHL
  | .rl_A => .rotatePlace 0xCB17 .rl (.reg .a)
  | .rr_B => .rotatePlace 0xCB18 .rr (.reg .b)
  | .rr_C => .rotatePlace 0xCB19 .rr (.reg .c)
  | .rr_D => .rotatePlace 0xCB1A .rr (.reg .d)
  | .rr_E => .rotatePlace 0xCB1B .rr (.reg .e)
  | .rr_H => .rotatePlace 0xCB1C .rr (.reg .h)
  | .rr_L => .rotatePlace 0xCB1D .rr (.reg .l)
  | .rr_mHL => .rotatePlace 0xCB1E .rr .memHL
  | .rr_A => .rotatePlace 0xCB1F .rr (.reg .a)
  | .sla_B => .rotatePlace 0xCB20 .sla (.reg .b)
  | .sla_C => .rotatePlace 0xCB21 .sla (.reg .c)
  | .sla_D => .rotatePlace 0xCB22 .sla (.reg .d)
  | .sla_E => .rotatePlace 0xCB23 .sla (.reg .e)
  | .sla_H => .rotatePlace 0xCB24 .sla (.reg .h)
  | .sla_L => .rotatePlace 0xCB25 .sla (.reg .l)
  | .sla_mHL => .rotatePlace 0xCB26 .sla .memHL
  | .sla_A => .rotatePlace 0xCB27 .sla (.reg .a)
  | .sra_B => .rotatePlace 0xCB28 .sra (.reg .b)
  | .sra_C => .rotatePlace 0xCB29 .sra (.reg .c)
  | .sra_D => .rotatePlace 0xCB2A .sra (.reg .d)
  | .sra_E => .rotatePlace 0xCB2B .sra (.reg .e)
  | .sra_H => .rotatePlace 0xCB2C .sra (.reg .h)
  | .sra_L => .rotatePlace 0xCB2D .sra (.reg .l)
  | .sra_mHL => .rotatePlace 0xCB2E .sra .memHL
  | .sra_A => .rotatePlace 0xCB2F .sra (.reg .a)
  | .swap_B => .rotatePlace 0xCB30 .swap (.reg .b)
  | .swap_C => .rotatePlace 0xCB31 .swap (.reg .c)
  | .swap_D => .rotatePlace 0xCB32 .swap (.reg .d)
  | .swap_E => .rotatePlace 0xCB33 .swap (.reg .e)
  | .swap_H => .rotatePlace 0xCB34 .swap (.reg .h)
  | .swap_L => .rotatePlace 0xCB35 .swap (.reg .l)
  | .swap_mHL => .rotatePlace 0xCB36 .swap .memHL
  | .swap_A => .rotatePlace 0xCB37 .swap (.reg .a)
  | .srl_B => .rotatePlace 0xCB38 .srl (.reg .b)
  | .srl_C => .rotatePlace 0xCB39 .srl (.reg .c)
  | .srl_D => .rotatePlace 0xCB3A .srl (.reg .d)
  | .srl_E => .rotatePlace 0xCB3B .srl (.reg .e)
  | .srl_H => .rotatePlace 0xCB3C .srl (.reg .h)
  | .srl_L => .rotatePlace 0xCB3D .srl (.reg .l)
  | .srl_mHL => .rotatePlace 0xCB3E .srl .memHL
  | .srl_A => .rotatePlace 0xCB3F .srl (.reg .a)
  | .bit_0_B => .testBit 0xCB40 0 (.reg .b)
  | .bit_0_C => .testBit 0xCB41 0 (.reg .c)
  | .bit_0_D => .testBit 0xCB42 0 (.reg .d)
  | .bit_0_E => .testBit 0xCB43 0 (.reg .e)
  | .bit_0_H => .testBit 0xCB44 0 (.reg .h)
  | .bit_0_L => .testBit 0xCB45 0 (.reg .l)
  | .bit_0_mHL => .testBit 0xCB46 0 .memHL
  | .bit_0_A => .testBit 0xCB47 0 (.reg .a)
  | .bit_1_B => .testBit 0xCB48 1 (.reg .b)
  | .bit_1_C => .testBit 0xCB49 1 (.reg .c)
  | .bit_1_D => .testBit 0xCB4A 1 (.reg .d)
  | .bit_1_E => .testBit 0xCB4B 1 (.reg .e)
  | .bit_1_H => .testBit 0xCB4C 1 (.reg .h)
  | .bit_1_L => .testBit 0xCB4D 1 (.reg .l)
  | .bit_1_mHL => .testBit 0xCB4E 1 .memHL
  | .bit_1_A => .testBit 0xCB4F 1 (.reg .a)
  | .bit_2_B => .testBit 0xCB50 2 (.reg .b)
  | .bit_2_C => .testBit 0xCB51 2 (.reg .c)
  | .bit_2_D => .testBit 0xCB52 2 (.reg .d)
  | .bit_2_E => .testBit 0xCB53 2 (.reg .e)
  | .bit_2_H => .testBit 0xCB54 2 (.reg .h)
  | .bit_2_L => .testBit 0xCB55 2 (.reg .l)
  | .bit_2_mHL => .testBit 0xCB56 2 .memHL
  | .bit_2_A => .testBit 0xCB57 2 (.reg .a)
  | .bit_3_B => .testBit 0xCB58 3 (.reg .b)
  | .bit_3_C => .testBit 0xCB59 3 (.reg .c)
  | .bit_3_D => .testBit 0xCB5A 3 (.reg .d)
  | .bit_3_E => .testBit 0xCB5B 3 (.reg .e)
  | .bit_3_H => .testBit 0xCB5C 3 (.reg .h)
  | .bit_3_L => .testBit 0xCB5D 3 (.reg .l)
  | .bit_3_mHL => .testBit 0xCB5E 3 .memHL
  | .bit_3_A => .testBit 0xCB5F 3 (.reg .a)
  | .bit_4_B => .testBit 0xCB60 4 (.reg .b)
  | .bit_4_C => .testBit 0xCB61 4 (.reg .c)
  | .bit_4_D => .testBit 0xCB62 4 (.reg .d)
  | .bit_4_E => .testBit 0xCB63 4 (.reg .e)
  | .bit_4_H => .testBit 0xCB64 4 (.reg .h)
  | .bit_4_L => .testBit 0xCB65 4 (.reg .l)
  | .bit_4_mHL => .testBit 0xCB66 4 .memHL
  | .bit_4_A => .testBit 0xCB67 4 (.reg .a)
  | .bit_5_B => .testBit 0xCB68 5 (.reg .b)
  | .bit_5_C => .testBit 0xCB69 5 (.reg .c)
  | .bit_5_D => .testBit 0xCB6A 5 (.reg .d)
  | .bit_5_E => .testBit 0xCB6B 5 (.reg .e)
  | .bit_5_H => .testBit 0xCB6C 5 (.reg .h)
  | .bit_5_L => .testBit 0xCB6D 5 (.reg .l)
  | .bit_5_mHL => .testBit 0xCB6E 5 .memHL
  | .bit_5_A => .testBit 0xCB6F 5 (.reg .a)
  | .bit_6_B => .testBit 0xCB70 6 (.reg .b)
  | .bit_6_C => .testBit 0xCB71 6 (.reg .c)
  | .bit_6_D => .testBit 0xCB72 6 (.reg .d)
  | .bit_6_E => .testBit 0xCB73 6 (.reg .e)
  | .bit_6_H => .testBit 0xCB74 6 (.reg .h)
  | .bit_6_L => .testBit 0xCB75 6 (.reg .l)
  | .bit_6_mHL => .testBit 0xCB76 6 .memHL
  | .bit_6_A => .testBit 0xCB77 6 (.reg .a)
  | .bit_7_B => .testBit 0xCB78 7 (.reg .b)
  | .bit_7_C => .testBit 0xCB79 7 (.reg .c)
  | .bit_7_D => .testBit 0xCB7A 7 (.reg .d)
  | .bit_7_E => .testBit 0xCB7B 7 (.reg .e)
  | .bit_7_H => .testBit 0xCB7C 7 (.reg .h)
  | .bit_7_L => .testBit 0xCB7D 7 (.reg .l)
  | .bit_7_mHL => .testBit 0xCB7E 7 .memHL
  | .bit_7_A => .testBit 0xCB7F 7 (.reg .a)
  | .res_0_B => .changeBit 0xCB80 (resetBit 0) (.reg .b)
  | .res_0_C => .changeBit 0xCB81 (resetBit 0) (.reg .c)
  | .res_0_D => .changeBit 0xCB82 (resetBit 0) (.reg .d)
  | .res_0_E => .changeBit 0xCB83 (resetBit 0) (.reg .e)
  | .res_0_H => .changeBit 0xCB84 (resetBit 0) (.reg .h)
  | .res_0_L => .changeBit 0xCB85 (resetBit 0) (.reg .l)
  | .res_0_mHL => .changeBit 0xCB86 (resetBit 0) .memHL
  | .res_0_A => .changeBit 0xCB87 (resetBit 0) (.reg .a)
  | .res_1_B => .changeBit 0xCB88 (resetBit 1) (.reg .b)
  | .res_1_C => .changeBit 0xCB89 (resetBit 1) (.reg .c)
  | .res_1_D => .changeBit 0xCB8A (resetBit 1) (.reg .d)
  | .res_1_E => .changeBit 0xCB8B (resetBit 1) (.reg .e)
  | .res_1_H => .changeBit 0xCB8C (resetBit 1) (.reg .h)
  | .res_1_L => .changeBit 0xCB8D (resetBit 1) (.reg .l)
  | .res_1_mHL => .changeBit 0xCB8E (resetBit 1) .memHL
  | .res_1_A => .changeBit 0xCB8F (resetBit 1) (.reg .a)
  | .res_2_B => .changeBit 0xCB90 (resetBit 2) (.reg .b)
  | .res_2_C => .changeBit 0xCB91 (resetBit 2) (.reg .c)
  | .res_2_D => .changeBit 0xCB92 (resetBit 2) (.reg .d)
  | .res_2_E => .changeBit 0xCB93 (resetBit 2) (.reg .e)
  | .res_2_H => .changeBit 0xCB94 (resetBit 2) (.reg .h)
  | .res_2_L => .changeBit 0xCB95 (resetBit 2) (.reg .l)
  | .res_2_mHL => .changeBit 0xCB96 (resetBit 2) .memHL
  | .res_2_A => .changeBit 0xCB97 (resetBit 2) (.reg .a)
  | .res_3_B => .changeBit 0xCB98 (resetBit 3) (.reg .b)
  | .res_3_C => .changeBit 0xCB99 (resetBit 3) (.reg .c)
  | .res_3_D => .changeBit 0xCB9A (resetBit 3) (.reg .d)
  | .res_3_E => .changeBit 0xCB9B (resetBit 3) (.reg .e)
  | .res_3_H => .changeBit 0xCB9C (resetBit 3) (.reg .h)
  | .res_3_L => .changeBit 0xCB9D (resetBit 3) (.reg .l)
  | .res_3_mHL => .changeBit 0xCB9E (resetBit 3) .memHL
  | .res_3_A => .changeBit 0xCB9F (resetBit 3) (.reg .a)
  | .res_4_B => .changeBit 0xCBA0 (resetBit 4) (.reg .b)
  | .res_4_C => .changeBit 0xCBA1 (resetBit 4) (.reg .c)
  | .res_4_D => .changeBit 0xCBA2 (resetBit 4) (.reg .d)
  | .res_4_E => .changeBit 0xCBA3 (resetBit 4) (.reg .e)
  | .res_4_H => .changeBit 0xCBA4 (resetBit 4) (.reg .h)
  | .res_4_L => .changeBit 0xCBA5 (resetBit 4) (.reg .l)
  | .res_4_mHL => .changeBit 0xCBA6 (resetBit 4) .memHL
  | .res_4_A => .changeBit 0xCBA7 (resetBit 4) (.reg .a)
  | .res_5_B => .changeBit 0xCBA8 (resetBit 5) (.reg .b)
  | .res_5_C => .changeBit 0xCBA9 (resetBit 5) (.reg .c)
  | .res_5_D => .changeBit 0xCBAA (resetBit 5) (.reg .d)
  | .res_5_E => .changeBit 0xCBAB (resetBit 5) (.reg .e)
  | .res_5_H => .changeBit 0xCBAC (resetBit 5) (.reg .h)
  | .res_5_L => .changeBit 0xCBAD (resetBit 5) (.reg .l)
  | .res_5_mHL => .changeBit 0xCBAE (resetBit 5) .memHL
  | .res_5_A => .changeBit 0xCBAF (resetBit 5) (.reg .a)
  | .res_6_B => .changeBit 0xCBB0 (resetBit 6) (.reg .b)
  | .res_6_C => .changeBit 0xCBB1 (resetBit 6) (.reg .c)
  | .res_6_D => .changeBit 0xCBB2 (resetBit 6) (.reg .d)
  | .res_6_E => .changeBit 0xCBB3 (resetBit 6) (.reg .e)
  | .res_6_H => .changeBit 0xCBB4 (resetBit 6) (.reg .h)
  | .res_6_L => .changeBit 0xCBB5 (resetBit 6) (.reg .l)
  | .res_6_mHL => .changeBit 0xCBB6 (resetBit 6) .memHL
  | .res_6_A => .changeBit 0xCBB7 (resetBit 6) (.reg .a)
  | .res_7_B => .changeBit 0xCBB8 (resetBit 7) (.reg .b)
  | .res_7_C => .changeBit 0xCBB9 (resetBit 7) (.reg .c)
  | .res_7_D => .changeBit 0xCBBA (resetBit 7) (.reg .d)
  | .res_7_E => .changeBit 0xCBBB (resetBit 7) (.reg .e)
  | .res_7_H => .changeBit 0xCBBC (resetBit 7) (.reg .h)
  | .res_7_L => .changeBit 0xCBBD (resetBit 7) (.reg .l)
  | .res_7_mHL => .changeBit 0xCBBE (resetBit 7) .memHL
  | .res_7_A => .changeBit 0xCBBF (resetBit 7) (.reg .a)
  | .set_0_B => .changeBit 0xCBC0 (setBit 0) (.reg .b)
  | .set_0_C => .changeBit 0xCBC1 (setBit 0) (.reg .c)
  | .set_0_D => .changeBit 0xCBC2 (setBit 0) (.reg .d)
  | .set_0_E => .changeBit 0xCBC3 (setBit 0) (.reg .e)
  | .set_0_H => .changeBit 0xCBC4 (setBit 0) (.reg .h)
  | .set_0_L => .changeBit 0xCBC5 (setBit 0) (.reg .l)
  | .set_0_mHL => .changeBit 0xCBC6 (setBit 0) .memHL
  | .set_0_A => .changeBit 0xCBC7 (setBit 0) (.reg .a)
  | .set_1_B => .changeBit 0xCBC8 (setBit 1) (.reg .b)
  | .set_1_C => .changeBit 0xCBC9 (setBit 1) (.reg .c)
  | .set_1_D => .changeBit 0xCBCA (setBit 1) (.reg .d)
  | .set_1_E => .changeBit 0xCBCB (setBit 1) (.reg .e)
  | .set_1_H => .changeBit 0xCBCC (setBit 1) (.reg .h)
  | .set_1_L => .changeBit 0xCBCD (setBit 1) (.reg .l)
  | .set_1_mHL => .changeBit 0xCBCE (setBit 1) .memHL
  | .set_1_A => .changeBit 0xCBCF (setBit 1) (.reg .a)
  | .set_2_B => .changeBit 0xCBD0 (setBit 2) (.reg .b)
  | .set_2_C => .changeBit 0xCBD1 (setBit 2) (.reg .c)
  | .set_2_D => .changeBit 0xCBD2 (setBit 2) (.reg .d)
  | .set_2_E => .changeBit 0xCBD3 (setBit 2) (.reg .e)
  | .set_2_H => .changeBit 0xCBD4 (setBit 2) (.reg .h)
  | .set_2_L => .changeBit 0xCBD5 (setBit 2) (.reg .l)
  | .set_2_mHL => .changeBit 0xCBD6 (setBit 2) .memHL
  | .set_2_A => .changeBit 0xCBD7 (setBit 2) (.reg .a)
  | .set_3_B => .changeBit 0xCBD8 (setBit 3) (.reg .b)
  | .set_3_C => .changeBit 0xCBD9 (setBit 3) (.reg .c)
  | .set_3_D => .changeBit 0xCBDA (setBit 3) (.reg .d)
  | .set_3_E => .changeBit 0xCBDB (setBit 3) (.reg .e)
  | .set_3_H => .changeBit 0xCBDC (setBit 3) (.reg .h)
  | .set_3_L => .changeBit 0xCBDD (setBit 3) (.reg .l)
  | .set_3_mHL => .changeBit 0xCBDE (setBit 3) .memHL
  | .set_3_A => .changeBit 0xCBDF (setBit 3) (.reg .a)
  | .set_4_B => .changeBit 0xCBE0 (setBit 4) (.reg .b)
  | .set_4_C => .changeBit 0xCBE1 (setBit 4) (.reg .c)
  | .set_4_D => .changeBit 0xCBE2 (setBit 4) (.reg .d)
  | .set_4_E => .changeBit 0xCBE3 (setBit 4) (.reg .e)
  | .set_4_H => .changeBit 0xCBE4 (setBit 4) (.reg .h)
  | .set_4_L => .changeBit 0xCBE5 (setBit 4) (.reg .l)
  | .set_4_mHL => .changeBit 0xCBE6 (setBit 4) .memHL
  | .set_4_A => .changeBit 0xCBE7 (setBit 4) (.reg .a)
  | .set_5_B => .changeBit 0xCBE8 (setBit 5) (.reg .b)
  | .set_5_C => .changeBit 0xCBE9 (setBit 5) (.reg .c)
  | .set_5_D => .changeBit 0xCBEA (setBit 5) (.reg .d)
  | .set_5_E => .changeBit 0xCBEB (setBit 5) (.reg .e)
  | .set_5_H => .changeBit 0xCBEC (setBit 5) (.reg .h)
  | .set_5_L => .changeBit 0xCBED (setBit 5) (.reg .l)
  | .set_5_mHL => .changeBit 0xCBEE (setBit 5) .memHL
  | .set_5_A => .changeBit 0xCBEF (setBit 5) (.reg .a)
  | .set_6_B => .changeBit 0xCBF0 (setBit 6) (.reg .b)
  | .set_6_C => .changeBit 0xCBF1 (setBit 6) (.reg .c)
  | .set_6_D => .changeBit 0xCBF2 (setBit 6) (.reg .d)
  | .set_6_E => .changeBit 0xCBF3 (setBit 6) (.reg .e)
  | .set_6_H => .changeBit 0xCBF4 (setBit 6) (.reg .h)
  | .set_6_L => .changeBit 0xCBF5 (setBit 6) (.reg .l)
  | .set_6_mHL => .changeBit 0xCBF6 (setBit 6) .memHL
  | .set_6_A => .changeBit 0xCBF7 (setBit 6) (.reg .a)
  | .set_7_B => .changeBit 0xCBF8 (setBit 7) (.reg .b)
  | .set_7_C => .changeBit 0xCBF9 (setBit 7) (.reg .c)
  | .set_7_D => .changeBit 0xCBFA (setBit 7) (.reg .d)
  | .set_7_E => .changeBit 0xCBFB (setBit 7) (.reg .e)
  | .set_7_H => .changeBit 0xCBFC (setBit 7) (.reg .h)
  | .set_7_L => .changeBit 0xCBFD (setBit 7) (.reg .l)
  | .set_7_mHL => .changeBit 0xCBFE (setBit 7) .memHL
  | .set_7_A => .changeBit 0xCBFF (setBit 7) (.reg .a)

/-- Executing an instruction is running its shape. -/
theorem exec_eq_run (i : Instr) (s : State) : exec i s = (shapeOf i).run s := by
  cases i <;> rfl

/-- The shape of the CB-table entry that a second byte names by its fields (R112). -/
def cbShape (op2 : Byte) : Shape :=
  let op := 0xCB00 + op2.toNat
  let y := op2.toNat / 8 % 8
  let z := Place.ofCode (op2.toNat % 8)
  match op2.toNat / 64 with
  | 0 => .rotatePlace op (RotOp.ofCode y) z
  | 1 => .testBit op y z
  | 2 => .changeBit op (resetBit y) z
  | _ => .changeBit op (setBit y) z

theorem cbPerform_eq_run (op2 : Byte) (s : State) : cbPerform op2 s = (cbShape op2).run s := by
  unfold cbPerform cbShape
  generalize op2.toNat / 64 = group
  match group with
  | 0 | 1 | 2 | _ + 3 => rfl

/-- The prefix row does what the entry it names does, so a fact about the shapes of the CB table holds for it. -/
theorem run_cb (s : State) : Shape.run .cb s = (cbShape (s.memRead (s.pcAfter 1))).run s := cbPerform_eq_run _ s

theorem cbShape_ne_cb (op2 : Byte) : cbShape op2 ≠ .cb := by
  unfold cbShape
  simp only
  split <;> simp

/-- A fact about every shape but the prefix row holds for the prefix row too. -/
theorem Shape.forall_run {P : State → State → Prop}
    (h : ∀ (k : Shape) (s t : State), k ≠ .cb → k.run s = .next t → P s t) (k : Shape) (s t : State)
    (hk : k.run s = .next t) : P s t := by
  by_cases hc : k = .cb
  · subst hc; rw [run_cb] at hk; exact h _ s t (cbShape_ne_cb _) hk
  · exact h k s t hc hk

/-- Every meaning completes: the outcome is a next state, never a fault and never a refusal. -/
theorem exec_next (i : Instr) (s : State) : ∃ t, exec i s = .next t := by
  have h : ∀ k : Shape, k ≠ .cb → ∃ t, k.run s = .next t := by
    intro k hk
    cases k
    case cb => exact absurd rfl hk
    case jumpIf => simp only [Shape.run, jumpIf]; split <;> exact ⟨_, rfl⟩
    case relativeIf => simp only [Shape.run, relativeIf]; split <;> exact ⟨_, rfl⟩
    case callIf => simp only [Shape.run, callIf]; split <;> exact ⟨_, rfl⟩
    case returnIf => simp only [Shape.run, returnIf]; split <;> exact ⟨_, rfl⟩
    all_goals exact ⟨_, rfl⟩
  rw [exec_eq_run]
  by_cases hc : shapeOf i = .cb
  · rw [hc, run_cb]; exact h _ (cbShape_ne_cb _)
  · exact h _ hc

/-! ### What no instruction disturbs -/

theorem State.div_memWrite (s : State) (a : Word) (v : Byte) :
    (s.memWrite a v).divCounter = s.divCounter ∨ (s.memWrite a v).divCounter = 0 := by
  rw [State.divCounter_memWrite]; split <;> simp

/-- The flag operation writes bits 7 to 4 only (R23). -/
theorem setFlags_low_nibble (fl : Flags) (b : Byte) : (fl.toByte ||| (b &&& 0x0F)) &&& 0x0F = b &&& 0x0F := by
  obtain ⟨z, n, h, c⟩ := fl
  cases z <;> cases n <;> cases h <;> cases c <;> revert b <;> decide

theorem and_high_low (b : Byte) : b &&& 0xF0 &&& 0x0F = 0 := by revert b; decide

/-- What every instruction leaves: memory in canonical form, no bits 3 to 0 in F, `div_counter` as it was or cleared,
and `tima_counter`, the parameters and the schedule of the environment as they were. -/
structure Steady (s t : State) : Prop where
  memory : Memory.wf s.mem → Memory.wf t.mem
  flagByte : s.f &&& 0x0F = 0 → t.f &&& 0x0F = 0
  div : t.divCounter = s.divCounter ∨ t.divCounter = 0
  timaCounter : t.timaCounter = s.timaCounter
  cfg : t.cfg = s.cfg
  env : t.env = s.env

theorem Steady.trans {s t u : State} (h : Steady s t) (k : Steady t u) : Steady s u where
  memory := k.memory ∘ h.memory
  flagByte := k.flagByte ∘ h.flagByte
  div := by
    rcases k.div with e | e
    · rw [e]; exact h.div
    · exact Or.inr e
  timaCounter := k.timaCounter.trans h.timaCounter
  cfg := k.cfg.trans h.cfg
  env := k.env.trans h.env

/-- An update of none of the fields in question. -/
theorem Steady.of_eq {s t : State} (h1 : t.mem = s.mem) (h2 : t.f = s.f) (h3 : t.divCounter = s.divCounter)
    (h4 : t.timaCounter = s.timaCounter) (h5 : t.cfg = s.cfg) (h6 : t.env = s.env) : Steady s t :=
  ⟨by rw [h1]; exact id, by rw [h2]; exact id, Or.inl h3, h4, h5, h6⟩

section
variable {s t : State} (h : Steady s t)
include h

theorem Steady.fetched (n : Nat) : Steady s (t.fetched n) := h.trans (.of_eq rfl rfl rfl rfl rfl rfl)
theorem Steady.spend (op n : Nat) (taken : Bool) : Steady s (t.spend op n taken) :=
  h.trans (.of_eq rfl rfl rfl rfl rfl rfl)
theorem Steady.setHl (v : Word) : Steady s (t.setHl v) := h.trans (.of_eq rfl rfl rfl rfl rfl rfl)
theorem Steady.dropTwo : Steady s t.dropTwo := h.trans (.of_eq rfl rfl rfl rfl rfl rfl)
theorem Steady.popPc : Steady s t.popPc := h.trans (.of_eq rfl rfl rfl rfl rfl rfl)
theorem Steady.returnFromInterrupt : Steady s t.returnFromInterrupt := h.trans (.of_eq rfl rfl rfl rfl rfl rfl)
theorem Steady.relative (e : Byte) : Steady s (t.relative e) := h.trans (.of_eq rfl rfl rfl rfl rfl rfl)
theorem Steady.haltNow : Steady s t.haltNow := by refine h.trans (.of_eq ?_ ?_ ?_ ?_ ?_ ?_) <;> simp
theorem Steady.setReg8 (r : Reg8) (v : Byte) : Steady s (t.setReg8 r v) := by
  refine h.trans (.of_eq ?_ ?_ ?_ ?_ ?_ ?_) <;> simp
theorem Steady.setReg16 (p : Reg16) (v : Word) : Steady s (t.setReg16 p v) := by
  refine h.trans (.of_eq ?_ ?_ ?_ ?_ ?_ ?_) <;> simp
theorem Steady.setFlags (fl : Flags) : Steady s (t.setFlags fl) :=
  h.trans ⟨id, (setFlags_low_nibble fl t.f).trans, Or.inl rfl, rfl, rfl, rfl⟩
theorem Steady.setStackReg (p : StackReg) (v : Word) : Steady s (t.setStackReg p v) := by
  refine h.trans ⟨by simp, fun hf => ?_, by simp, by simp, by simp, by simp⟩
  cases p <;> first | exact hf | exact and_high_low _
theorem Steady.memWrite (a : Word) (v : Byte) : Steady s (t.memWrite a v) :=
  h.trans ⟨fun hw => State.wf_memWrite t hw a v, by simp, State.div_memWrite t a v, by simp, by simp, by simp⟩
theorem Steady.memWrite16 (a : Word) (v : Word) : Steady s (t.memWrite16 a v) := (h.memWrite _ _).memWrite _ _
theorem Steady.writePlace (x : Place) (v : Byte) : Steady s (t.writePlace x v) := by
  cases x
  · exact h.setReg8 _ _
  · exact h.memWrite _ _
theorem Steady.setSp (v : Word) : Steady s { t with sp := v } := h.trans (.of_eq rfl rfl rfl rfl rfl rfl)
theorem Steady.setPc (v : Word) : Steady s { t with pc := v } := h.trans (.of_eq rfl rfl rfl rfl rfl rfl)
theorem Steady.setA (v : Byte) : Steady s { t with a := v } := h.trans (.of_eq rfl rfl rfl rfl rfl rfl)
theorem Steady.push16 (v : Word) : Steady s (t.push16 v) := (((h.setSp _).memWrite _ _).setSp _).memWrite _ _
theorem Steady.callTo (v : Word) : Steady s (t.callTo v) := (h.push16 _).setPc _

end

theorem Steady.refl (s : State) : Steady s s := .of_eq rfl rfl rfl rfl rfl rfl

theorem run_steady (k : Shape) (s t : State) (h : k.run s = .next t) : Steady s t := by
  revert h
  refine Shape.forall_run (P := Steady) ?_ k s t
  intro k s t hk h
  have r := Steady.refl s
  cases k
  case cb => exact absurd rfl hk
  case jumpIf =>
    simp only [Shape.run, jumpIf] at h
    split at h <;> obtain rfl := Host.Outcome.next.inj h
    · exact ((r.fetched _).setPc _).spend ..
    · exact (r.fetched _).spend ..
  case relativeIf =>
    simp only [Shape.run, relativeIf] at h
    split at h <;> obtain rfl := Host.Outcome.next.inj h
    · exact ((r.fetched _).relative _).spend ..
    · exact (r.fetched _).spend ..
  case callIf =>
    simp only [Shape.run, callIf] at h
    split at h <;> obtain rfl := Host.Outcome.next.inj h
    · exact ((r.fetched _).callTo _).spend ..
    · exact (r.fetched _).spend ..
  case returnIf =>
    simp only [Shape.run, returnIf] at h
    split at h <;> obtain rfl := Host.Outcome.next.inj h
    · exact (r.fetched _).popPc.spend ..
    · exact (r.fetched _).spend ..
  all_goals obtain rfl := Host.Outcome.next.inj h
  case ldToMem | storeA | ldImmToMem => exact ((r.fetched _).memWrite _ _).spend ..
  case storeAStep => exact (((r.fetched _).memWrite _ _).setHl _).spend ..
  case ldMnnSp => exact ((r.fetched _).memWrite16 _ _).spend ..
  case pushPair => exact ((r.fetched _).push16 _).spend ..
  case popPair => exact ((r.fetched _).dropTwo.setStackReg _ _).spend ..
  case restart | call => exact ((r.fetched _).callTo _).spend ..
  case ldReg | ldImm | ldFromMem => exact ((r.fetched _).setReg8 _ _).spend ..
  case ldPair | stepPair => exact ((r.fetched _).setReg16 _ _).spend ..
  case ldHlSp | addHl => exact (((r.fetched _).setHl _).setFlags _).spend ..
  case addSp => exact (((r.fetched _).setSp _).setFlags _).spend ..
  case alu | accFlags | rotateAcc => exact (((r.fetched _).setA _).setFlags _).spend ..
  case incPlace | decPlace | rotatePlace => exact (((r.fetched _).setFlags _).writePlace _ _).spend ..
  case testBit => exact ((r.fetched _).setFlags _).spend ..
  case changeBit => exact ((r.fetched _).writePlace _ _).spend ..
  case halt => exact (r.fetched _).haltNow.spend ..
  case loadA => exact ((r.fetched _).setA _).spend ..
  case loadAStep => exact (((r.fetched _).setA _).setHl _).spend ..
  case ldSpHl => exact ((r.fetched _).setSp _).spend ..
  case jp | jpHl => exact ((r.fetched _).setPc _).spend ..
  case jr => exact ((r.fetched _).relative _).spend ..
  case ret => exact (r.fetched _).popPc.spend ..
  case reti => exact (r.fetched _).returnFromInterrupt.spend ..
  all_goals exact .of_eq rfl rfl rfl rfl rfl rfl

/-- `Steady` for `exec`. -/
theorem exec_steady {i : Instr} {s t : State} (h : exec i s = .next t) : Steady s t := by
  rw [exec_eq_run] at h; exact run_steady _ s t h

/-! ### `run_state`, IME, the latch and `halted` -/

/-- `run_state`, IME, the latch and `halted` are as they were. -/
structure Leaves (s t : State) : Prop where
  runState : t.runState = s.runState
  ime : t.ime = s.ime
  latch : t.eiPending = s.eiPending
  halted : t.halted = s.halted

/-- What an instruction does to `run_state` and the interrupt state, by cases: it raises the decode error, stops the
core, halts it or arms the halt bug, writes IME or the latch, or leaves all of it. -/
inductive Control (s t : State) : Shape → Prop where
  | faults (op : Byte) (h : t = s.raiseUndefinedOpcode op) : Control s t (.undefinedOpcode op)
  | stops (h : t.runState = .stopped) (k : Leaves { s with runState := .stopped } t) : Control s t .stop
  | halts (hr : t.runState = s.runState) (hi : t.ime = s.ime) (he : t.eiPending = s.eiPending) : Control s t .halt
  | returns (k : Leaves { s with ime := true } t) : Control s t .reti
  | disables (k : Leaves { s with ime := false, eiPending := false } t) : Control s t .di
  | arms (k : Leaves { s with eiPending := true } t) : Control s t .ei
  | leaves (k : Shape) (h : Leaves s t) : Control s t k

theorem run_control_of_ne_cb (k : Shape) (s t : State) (hk : k ≠ .cb) (h : k.run s = .next t) : Control s t k := by
  cases k
  case cb => exact absurd rfl hk
  case jumpIf =>
    simp only [Shape.run, jumpIf] at h
    split at h <;> (obtain rfl := Host.Outcome.next.inj h; exact .leaves _ ⟨rfl, rfl, rfl, rfl⟩)
  case relativeIf =>
    simp only [Shape.run, relativeIf] at h
    split at h <;> (obtain rfl := Host.Outcome.next.inj h; exact .leaves _ ⟨rfl, rfl, rfl, rfl⟩)
  case callIf =>
    simp only [Shape.run, callIf] at h
    split at h <;> (obtain rfl := Host.Outcome.next.inj h; refine .leaves _ ⟨?_, ?_, ?_, ?_⟩ <;> simp)
  case returnIf =>
    simp only [Shape.run, returnIf] at h
    split at h <;> (obtain rfl := Host.Outcome.next.inj h; exact .leaves _ ⟨rfl, rfl, rfl, rfl⟩)
  all_goals obtain rfl := Host.Outcome.next.inj h
  case undefinedOpcode op => exact .faults op rfl
  case stop => exact .stops rfl ⟨rfl, rfl, rfl, rfl⟩
  case halt => refine .halts ?_ ?_ ?_ <;> simp
  case reti => exact .returns ⟨rfl, rfl, rfl, rfl⟩
  case di => exact .disables ⟨rfl, rfl, rfl, rfl⟩
  case ei => exact .arms ⟨rfl, rfl, rfl, rfl⟩
  case ldMnnSp => refine .leaves _ ⟨?_, ?_, ?_, ?_⟩ <;> simp [State.memWrite16]
  case ldToMem | storeA | ldImmToMem | storeAStep | pushPair | popPair | restart | call | ldReg | ldImm | ldFromMem
      | ldPair | stepPair | changeBit => refine .leaves _ ⟨?_, ?_, ?_, ?_⟩ <;> simp
  case incPlace | decPlace | rotatePlace =>
    refine .leaves _ ⟨?_, ?_, ?_, ?_⟩ <;>
      simp only [State.spend_runState, State.writePlace_runState, State.setFlags_runState, State.fetched_runState,
        State.spend_ime, State.writePlace_ime, State.setFlags_ime, State.fetched_ime, State.spend_eiPending,
        State.writePlace_eiPending, State.setFlags_eiPending, State.fetched_eiPending, State.spend_halted,
        State.writePlace_halted, State.setFlags_halted, State.fetched_halted]
  all_goals exact .leaves _ ⟨rfl, rfl, rfl, rfl⟩

theorem run_control (k : Shape) (s t : State) (h : k.run s = .next t) : Control s t k := by
  by_cases hc : k = .cb
  · subst hc
    rw [run_cb] at h
    have hs := run_control_of_ne_cb _ s t (cbShape_ne_cb _) h
    revert hs
    unfold cbShape
    simp only
    split <;> (intro hs; cases hs; exact .leaves _ ‹_›)
  · exact run_control_of_ne_cb k s t hc h

/-- `Control` for `exec`. -/
theorem exec_control {i : Instr} {s t : State} (h : exec i s = .next t) : Control s t (shapeOf i) := by
  rw [exec_eq_run] at h; exact run_control _ s t h

/-! ### Cycles -/

/-- Whatever `CYCLES` is, a positive default stays positive (R271): an override is positive by its type. -/
theorem State.cyclesOf_pos (s : State) (op : Nat) (taken : Bool) {n : Nat} (h : 0 < n) : 0 < s.cyclesOf op taken n := by
  unfold State.cyclesOf
  split
  · exact Nat.succ_pos _
  · exact h

/-- The shapes whose cost is an argument have a positive one. -/
def Shape.Costs : Shape → Prop
  | .loadA _ _ cost _ | .storeA _ _ cost _ => 0 < cost
  | _ => True

theorem shapeOf_costs (i : Instr) : (shapeOf i).Costs := by
  cases i <;> first | trivial | exact Nat.succ_pos _

theorem cbShape_costs (op2 : Byte) : (cbShape op2).Costs := by
  unfold cbShape
  simp only
  split <;> trivial

theorem run_cycles_of_ne_cb (k : Shape) (s t : State) (hk : k ≠ .cb) (hc : k.Costs) (h : k.run s = .next t) :
    (∃ op, t = s.raiseUndefinedOpcode op) ∨ 0 < t.cycles := by
  cases k
  case cb => exact absurd rfl hk
  case undefinedOpcode op => exact Or.inl ⟨op, (Host.Outcome.next.inj h).symm⟩
  case jumpIf =>
    simp only [Shape.run, jumpIf] at h
    split at h <;> (obtain rfl := Host.Outcome.next.inj h; exact Or.inr (State.cyclesOf_pos _ _ _ (by decide)))
  case relativeIf =>
    simp only [Shape.run, relativeIf] at h
    split at h <;> (obtain rfl := Host.Outcome.next.inj h; exact Or.inr (State.cyclesOf_pos _ _ _ (by decide)))
  case callIf =>
    simp only [Shape.run, callIf] at h
    split at h <;> (obtain rfl := Host.Outcome.next.inj h; exact Or.inr (State.cyclesOf_pos _ _ _ (by decide)))
  case returnIf =>
    simp only [Shape.run, returnIf] at h
    split at h <;> (obtain rfl := Host.Outcome.next.inj h; exact Or.inr (State.cyclesOf_pos _ _ _ (by decide)))
  all_goals
    obtain rfl := Host.Outcome.next.inj h
    refine Or.inr (State.cyclesOf_pos _ _ _ ?_)
  case loadA | storeA => exact hc
  case alu op k x => cases x <;> exact Nat.succ_pos _
  case incPlace op x | decPlace op x | rotatePlace op k x | testBit op b x | changeBit op f x =>
    cases x <;> exact Nat.succ_pos _
  all_goals exact Nat.succ_pos _

/-- An instruction reports a positive number of M-cycles, unless it raises the decode error (R271). -/
theorem exec_cycles {i : Instr} {s t : State} (h : exec i s = .next t) :
    (∃ op, t = s.raiseUndefinedOpcode op) ∨ 0 < t.cycles := by
  rw [exec_eq_run] at h
  by_cases hc : shapeOf i = .cb
  · rw [hc, run_cb] at h
    exact run_cycles_of_ne_cb _ s t (cbShape_ne_cb _) (cbShape_costs _) h
  · exact run_cycles_of_ne_cb _ s t hc (shapeOf_costs i) h

/-! ### PC and the halt bug -/

/-- The length of the instructions of a shape that transfer no control; `none` for those that do, for the undefined
bytes and for the prefix row. -/
def Shape.through : Shape → Option Nat
  | .jumpIf .. | .relativeIf .. | .callIf .. | .returnIf .. | .restart .. | .undefinedOpcode _ | .jp _ | .jpHl | .jr _
  | .call _ | .ret | .reti | .cb => none
  | .ldImm .. | .ldImmToMem .. | .ldHlSp .. | .addSp .. | .rotatePlace .. | .testBit .. | .changeBit .. => some 2
  | .ldPair .. | .ldMnnSp _ => some 3
  | .loadA _ len _ _ | .storeA _ len _ _ => some len
  | .alu _ _ x => some x.length
  | _ => some 1

/-- An instruction that transfers no control leaves PC past its bytes, and the halt bug used up, but for HALT, which
may set it (R29, R275, R261). -/
theorem run_through (k : Shape) (s t : State) (n : Nat) (hk : k.through = some n) (h : k.run s = .next t) :
    t.pc = s.pcAfter n ∧ (k ≠ .halt → t.haltBug = false) := by
  cases k
  case jumpIf | relativeIf | callIf | returnIf | restart | undefinedOpcode | jp | jpHl | jr | call | ret | reti | cb =>
    exact absurd hk (by simp [Shape.through])
  all_goals
    obtain rfl := Host.Outcome.next.inj h
    obtain rfl := Option.some.inj hk
  case halt => exact ⟨by simp, fun e => absurd rfl e⟩
  case ldReg | ldImm | ldFromMem | ldToMem | ldImmToMem | storeA | storeAStep | ldPair | pushPair | popPair
      | incPlace | decPlace | rotatePlace | changeBit | stepPair => exact ⟨by simp, fun _ => by simp⟩
  case ldMnnSp => exact ⟨by simp [State.memWrite16], fun _ => by simp [State.memWrite16]⟩
  all_goals exact ⟨rfl, fun _ => rfl⟩

/-- The prefix row apart, the length of a shape is that of the encoding. -/
theorem shapeOf_through (i : Instr) (n : Nat) (h : (shapeOf i).through = some n) : (encode i).length = n := by
  revert h
  cases i <;> first | exact fun h => Option.some.inj h | exact fun h => by cases h

end Sys2Proof.Machine
end

