-- ==== Sys2Proof/Laws/Step.lean ====
section
/-!
SUPPORT. The timer, the environment and the step: what each can do, said once. `step_cases` is the inversion of a
step, which every rule about a step cites.
-/
open Sys2Proof.Stated

namespace Sys2Proof.Machine

/-! ### Timer -/

theorem timaPeriod_pos (tac : Byte) : 0 < timaPeriod tac := by
  unfold timaPeriod
  split <;> decide

theorem timaPeriod_le (tac : Byte) : timaPeriod tac ≤ 256 := by
  unfold timaPeriod
  split <;> decide

/-- The period of the model is that of the statements (R302). -/
theorem period_eq (tac : Byte) : period tac = timaPeriod tac := by
  revert tac
  decide

/-- `tima_counter` after an advance (R302, R303): the remainder while the timer is enabled, else as it was. -/
theorem State.timaCounter_timerAdvance (s : State) (n : Nat) :
    (s.timerAdvance n).timaCounter =
      if s.tac.getLsbD 2 = true then (s.timaCounter + n) % timaPeriod s.tac else s.timaCounter := by
  have e : (s.advanceDiv n).timerEnabled = s.tac.getLsbD 2 := rfl
  unfold State.timerAdvance State.advanceTima
  rw [e]
  split
  · rw [State.timaTicks_timaCounter]; rfl
  · rfl

/-- An advance of the timer leaves every byte but its own three as it was (R300 to R302). -/
theorem State.memRead_timerAdvance (s : State) (n : Nat) (a : Word) (h : a ∉ timerBytes) :
    (s.timerAdvance n).memRead a = s.memRead a := by
  simp only [timerBytes, List.mem_cons, List.not_mem_nil, or_false, not_or] at h
  have h1 : homeOf a ≠ .div := fun e => h.1 ((homeOf_eq_iff_of_high (x := 0xFF04) (by decide) a).1 e)
  have h2 : homeOf a ≠ .tima := fun e => h.2.1 ((homeOf_eq_iff_of_high (x := 0xFF05) (by decide) a).1 e)
  have h3 : homeOf a ≠ .iflag := fun e => h.2.2 ((homeOf_eq_iff_of_high (x := 0xFF0F) (by decide) a).1 e)
  unfold State.memRead State.rawRead
  cases hh : homeOf a with
  | div => exact absurd hh h1
  | tima => exact absurd hh h2
  | iflag => exact absurd hh h3
  | _ => simp only [State.timerAdvance_tma, State.timerAdvance_tac, State.timerAdvance_ie, State.timerAdvance_mem]

/-! ### The environment -/

/-- What the environment may change between steps: IF and memory, which keeps its canonical form, and the schedule. -/
structure EnvOnly (s t : State) : Prop where
  memory : Memory.wf s.mem → Memory.wf t.mem
  rest : t = { s with mem := t.mem, iflag := t.iflag, env := t.env }

/-- Where the byte of a peripheral change stands: in memory, or it is IF. -/
theorem setIo_home (offset : Nat) (h : offset < 0x80) (h' : offset ∉ [0x04, 0x05, 0x06, 0x07]) :
    homeOf (BitVec.ofNat 16 (0xFF00 + offset)) =
      if offset = 0x0F then .iflag else .cell (0xFF00 + offset) := by
  revert h'
  revert offset
  decide

theorem envMove_only (s : State) (m : EnvMove) : EnvOnly s (s.envMove m) ∧ (s.envMove m).env = s.env := by
  cases m with
  | raise m => exact ⟨⟨id, rfl⟩, rfl⟩
  | setIo offset v =>
    simp only [State.envMove]
    split
    · rename_i h
      refine ⟨⟨fun hw => State.wf_rawWrite s hw _ _, ?_⟩, by simp⟩
      simp only [State.rawWrite, setIo_home offset h.1 h.2]
      by_cases e : offset = 0x0F
      · rw [if_pos e]
      · rw [if_neg e]
    · exact ⟨⟨id, rfl⟩, rfl⟩

theorem EnvOnly.trans {s t u : State} (h : EnvOnly s t) (k : EnvOnly t u) : EnvOnly s u :=
  ⟨k.memory ∘ h.memory, by rw [k.rest, h.rest]⟩

theorem envMoves_only (ms : List EnvMove) (s : State) :
    EnvOnly s (ms.foldl State.envMove s) ∧ (ms.foldl State.envMove s).env = s.env := by
  induction ms generalizing s with
  | nil => exact ⟨⟨id, rfl⟩, rfl⟩
  | cons m ms ih =>
    obtain ⟨h, e⟩ := envMove_only s m
    obtain ⟨h', e'⟩ := ih (s.envMove m)
    exact ⟨h.trans h', e'.trans e⟩

/-- The environment's moves before a step change IF and memory only, and the schedule moves on. -/
theorem environment_only (s : State) : EnvOnly s s.environment ∧ s.environment.env = s.env.tail := by
  unfold State.environment
  split
  · rename_i h; exact ⟨⟨id, rfl⟩, by rw [h]; rfl⟩
  · rename_i moves later h
    obtain ⟨k, e⟩ := envMoves_only moves { s with env := later }
    refine ⟨⟨k.memory, ?_⟩, by rw [e, h]; rfl⟩
    rw [k.rest]

/-- The environment's moves do not depend on `halted` and leave it. -/
theorem envMoves_halted (ms : List EnvMove) (s : State) (b : Bool) :
    ms.foldl State.envMove { s with halted := b } = { ms.foldl State.envMove s with halted := b } := by
  induction ms generalizing s with
  | nil => rfl
  | cons m ms ih =>
    have e : State.envMove { s with halted := b } m = { s.envMove m with halted := b } := by
      cases m with
      | raise m => rfl
      | setIo offset v =>
        simp only [State.envMove]
        split
        · unfold State.rawWrite; split <;> rfl
        · rfl
    rw [List.foldl_cons, List.foldl_cons, e, ih]

/-- With no schedule left the environment does nothing. -/
theorem environment_nil {s : State} (h : s.env = []) : s.environment = s := by
  unfold State.environment; rw [h]

/-- The environment makes the moves at the head of the schedule, in order. -/
theorem environment_cons {s : State} {moves : List EnvMove} {later : List (List EnvMove)} (h : s.env = moves :: later) :
    s.environment = moves.foldl State.envMove { s with env := later } := by
  unfold State.environment; rw [h]

theorem environment_halted (s : State) (b : Bool) :
    State.environment { s with halted := b } = { s.environment with halted := b } := by
  obtain h | ⟨moves, later, h⟩ : s.env = [] ∨ ∃ moves later, s.env = moves :: later := by cases s.env <;> simp
  · rw [environment_nil h, environment_nil (s := { s with halted := b }) h]
  · rw [environment_cons h, environment_cons (s := { s with halted := b }) h]
    exact envMoves_halted moves { s with env := later } b

/-- The byte of a peripheral change, and no other, is as the move says (R92). -/
theorem State.memRead_setIo (s : State) (hw : Memory.wf s.mem) (offset : Nat) (v : Byte) (b : Word) :
    (s.envMove (.setIo offset v)).memRead b =
      if offset < 0x80 ∧ offset ∉ [0x04, 0x05, 0x06, 0x07] ∧ b = BitVec.ofNat 16 (0xFF00 + offset) then v
      else s.memRead b := by
  simp only [State.envMove]
  by_cases h : offset < 0x80 ∧ offset ∉ [0x04, 0x05, 0x06, 0x07]
  · rw [if_pos h]
    show State.rawRead _ b = _
    rw [State.rawRead_rawWrite s hw]
    have e := backing_eq_iff_of_high (x := BitVec.ofNat 16 (0xFF00 + offset)) (by simp; omega) b
    by_cases hb : b = BitVec.ofNat 16 (0xFF00 + offset)
    · rw [if_pos (e.2 hb), if_pos ⟨h.1, h.2, hb⟩]
    · rw [if_neg (fun k => hb (e.1 k)), if_neg (fun k => hb k.2.2)]; rfl
  · rw [if_neg h, if_neg (fun k => h ⟨k.1, k.2.1⟩)]

/-! ### Dispatch and wake -/

section
variable (s : State)
@[simp] theorem State.dispatchInterrupt_pc : s.dispatchInterrupt.pc = vectorOf (lowestSource s.pending) := rfl
@[simp] theorem State.dispatchInterrupt_sp : s.dispatchInterrupt.sp = s.sp - 1 - 1 := by simp [State.dispatchInterrupt]
@[simp] theorem State.dispatchInterrupt_ime : s.dispatchInterrupt.ime = false := rfl
@[simp] theorem State.dispatchInterrupt_eiPending : s.dispatchInterrupt.eiPending = false := rfl
@[simp] theorem State.dispatchInterrupt_halted : s.dispatchInterrupt.halted = false := rfl
@[simp] theorem State.dispatchInterrupt_cycles : s.dispatchInterrupt.cycles = 5 := rfl
@[simp] theorem State.dispatchInterrupt_haltBug : s.dispatchInterrupt.haltBug = s.haltBug := by
  simp [State.dispatchInterrupt]
@[simp] theorem State.dispatchInterrupt_f : s.dispatchInterrupt.f = s.f := by simp [State.dispatchInterrupt]
@[simp] theorem State.dispatchInterrupt_timaCounter : s.dispatchInterrupt.timaCounter = s.timaCounter := by
  simp [State.dispatchInterrupt]
@[simp] theorem State.dispatchInterrupt_runState : s.dispatchInterrupt.runState = s.runState := by
  simp [State.dispatchInterrupt]
@[simp] theorem State.dispatchInterrupt_cfg : s.dispatchInterrupt.cfg = s.cfg := by simp [State.dispatchInterrupt]
@[simp] theorem State.dispatchInterrupt_env : s.dispatchInterrupt.env = s.env := by simp [State.dispatchInterrupt]
@[simp] theorem State.dispatchInterrupt_divCounter :
    s.dispatchInterrupt.divCounter = (s.push16 s.pc).divCounter := by simp only [State.dispatchInterrupt]
@[simp] theorem State.reg8_dispatchInterrupt (r : Reg8) : s.dispatchInterrupt.reg8 r = s.reg8 r := by
  cases r <;> simp [State.dispatchInterrupt, State.reg8]
/-- The bus after a dispatch: the pushed word, then the source's IF bit cleared. -/
theorem State.memRead_dispatchInterrupt (a : Word) : s.dispatchInterrupt.memRead a =
    if a = 0xFF0F then (s.push16 s.pc).memRead a &&& ~~~((1 : Byte) <<< lowestSource s.pending)
    else (s.push16 s.pc).memRead a := by
  have key : homeOf a = .iflag ↔ a = 0xFF0F := homeOf_eq_iff_of_high (x := 0xFF0F) (by decide) a
  unfold State.memRead State.rawRead State.dispatchInterrupt
  by_cases h : a = 0xFF0F
  · rw [key.2 h, if_pos h]
  · rw [if_neg h]
    have : homeOf a ≠ .iflag := fun e => h (key.1 e)
    cases hh : homeOf a <;> first | exact absurd hh this | simp only
end


/-- The source a dispatch takes is the lowest-numbered pending one (R292). -/
theorem lowestSource_eq (p : Byte) (k : Nat) (hk : k < 5) (h : p.getLsbD k = true)
    (hl : ∀ j, j < k → p.getLsbD j = false) : lowestSource p = k := by
  unfold lowestSource
  have h0 := fun q => hl 0 q
  have h1 := fun q => hl 1 q
  have h2 := fun q => hl 2 q
  have h3 := fun q => hl 3 q
  interval_cases k <;> simp_all

/-- The wake writes `halted` only. -/
theorem State.wake_eq (s : State) : s.wake = { s with halted := s.halted && decide (s.pending = 0) } := by
  unfold State.wake; split <;> simp_all

/-! ### What an instruction does to `run_state` -/

/-- The prefix row does what its entry does: the two dispatches of the CB map agree. -/
theorem shapeOf_cbInstr (b : Byte) : shapeOf (cbInstr b) = cbShape b := by
  refine byte_forall (P := fun b => shapeOf (cbInstr b) = cbShape b) ?_ b
  intro n hn
  interval_cases n <;> rfl

theorem shapeOf_of_legal (i : Instr) (h : i.isIllegal = false) (op : Byte) : shapeOf i ≠ .undefinedOpcode op := by
  cases i <;> first | exact absurd h (by decide) | exact fun e => by cases e

/-- An instruction other than the 11 undefined bytes leaves a running core running, or stopped. -/
theorem exec_runState {i : Instr} {s t : State} (h : exec i s = .next t) (hi : i.isIllegal = false)
    (hr : s.runState = .running) : t.runState = .running ∨ t.runState = .stopped := by
  have c := exec_control h
  have ni := shapeOf_of_legal i hi
  revert c ni
  generalize shapeOf i = k
  intro c ni
  cases c with
  | faults op => exact absurd rfl (ni op)
  | stops h => exact Or.inr h
  | halts h => exact Or.inl (h.trans hr)
  | returns k => exact Or.inl (k.runState.trans hr)
  | disables k => exact Or.inl (k.runState.trans hr)
  | arms k => exact Or.inl (k.runState.trans hr)
  | leaves _ k => exact Or.inl (k.runState.trans hr)

/-! ### The step -/

/-- The inversion of a step: a running core dispatches, idles, or executes the instruction at PC. -/
theorem step_cases {s t : State} (h : step s = .next t) : s.runState = .running ∧
    ((s.environment.mustDispatch = true ∧
        t = s.environment.wake.dispatchInterrupt.timerAdvance s.environment.wake.dispatchInterrupt.cycles) ∨
      (s.environment.mustDispatch = false ∧ s.environment.wake.halted = true ∧
        t = s.environment.wake.idle.timerAdvance 1) ∨
      (s.environment.mustDispatch = false ∧ s.environment.wake.halted = false ∧
        ∃ d, exec s.environment.wake.instrAtPc s.environment.wake = .next d ∧
          t = s.environment.finishInstr d)) := by
  unfold step at h
  split at h
  · refine ⟨‹_›, ?_⟩
    unfold runningStep at h
    split at h
    · exact Or.inl ⟨‹_›, (Host.Outcome.next.inj h).symm⟩
    · rename_i hd
      split at h
      · exact Or.inr (Or.inl ⟨by simpa using hd, ‹_›, (Host.Outcome.next.inj h).symm⟩)
      · rename_i hh
        obtain ⟨d, hx⟩ := exec_next s.environment.wake.instrAtPc s.environment.wake
        rw [hx] at h
        exact Or.inr (Or.inr ⟨by simpa using hd, by simpa using hh, d, hx, (Host.Outcome.next.inj h).symm⟩)
  · cases h
  · cases h

/-- A running core has a step. -/
theorem step_next (s : State) (h : s.runState = .running) : ∃ t, step s = .next t := by
  unfold step
  rw [h]
  simp only [runningStep]
  split
  · exact ⟨_, rfl⟩
  · split
    · exact ⟨_, rfl⟩
    · obtain ⟨d, hx⟩ := exec_next s.environment.wake.instrAtPc s.environment.wake
      rw [hx]
      exact ⟨_, rfl⟩

@[simp] theorem State.instrAtPc_wake (s : State) : s.wake.instrAtPc = s.instrAtPc := by
  rw [State.wake_eq]; rfl

theorem runState_environment (s : State) : s.environment.runState = s.runState := by
  rw [(environment_only s).1.rest]

/-- A running core that must dispatch does (R291). -/
theorem step_of_dispatch {s : State} (hr : s.runState = .running) (h : s.environment.mustDispatch = true) :
    step s = .next (s.environment.wake.dispatchInterrupt.timerAdvance 5) := by
  simp [step, hr, runningStep, h]

/-- A halted core with nothing pending idles (R293). -/
theorem step_of_idle {s : State} (hr : s.runState = .running) (hh : s.halted = true)
    (hp : s.environment.pending = 0) :
    step s = .next (State.timerAdvance { s.environment with cycles := 1 } 1) := by
  have he : s.environment.halted = true := by rw [(environment_only s).1.rest]; exact hh
  simp [step, hr, runningStep, State.mustDispatch, hp, State.wake, he, State.idle]

/-- A step that executes ends as the instruction at PC does, from the state the environment and the wake leave. -/
theorem step_of_executes {s : State} (h : Executes s.environment) :
    ∃ d, exec s.environment.instrAtPc s.environment.wake = .next d ∧ step s = .next (s.environment.finishInstr d) ∧
      s.environment.wake = { s.environment with halted := false } := by
  obtain ⟨hr, hd, hh⟩ := h
  have hmd : s.environment.mustDispatch = false := by rcases hd with h | h <;> simp [State.mustDispatch, h]
  have hw : s.environment.wake = { s.environment with halted := false } := by
    rw [State.wake_eq]; rcases hh with h | h <;> simp only [h, decide_false, Bool.false_and, Bool.and_false]
  obtain ⟨d, hx⟩ := exec_next s.environment.instrAtPc s.environment.wake
  refine ⟨d, hx, ?_, hw⟩
  rw [runState_environment] at hr
  unfold step
  rw [hr]
  simp only [runningStep, hmd, State.instrAtPc_wake, hx, Bool.false_eq_true, if_false]
  rw [hw]
  rfl

/-- The end of a step that executed an instruction with a behaviour. -/
theorem finishInstr_of_legal {i : Instr} {u d : State} (hx : exec i u.wake = .next d) (hi : i.isIllegal = false)
    (hr : u.runState = .running) : u.finishInstr d = (d.completeLatch u.eiPending).timerAdvance d.cycles := by
  unfold State.finishInstr
  rcases exec_runState hx hi (by rw [State.wake_eq]; exact hr) with h | h <;> rw [h]

/-- An instruction without a length to go through is a control transfer, an undefined byte or the prefix row. -/
theorem transfers_of_through (i : Instr) (h : (shapeOf i).through = none) :
    TransfersControl i ∨ i.isIllegal = true ∨ i = .cbPrefix := by
  have jp (k nn) : TransfersControl (jpIfI k nn) := Or.inr (Or.inr (Or.inr (Or.inl ⟨k, nn, rfl⟩)))
  have jr (k e) : TransfersControl (jrIfI k e) := Or.inr (Or.inr (Or.inr (Or.inr (Or.inl ⟨k, e, rfl⟩))))
  have call (k nn) : TransfersControl (callIfI k nn) :=
    Or.inr (Or.inr (Or.inr (Or.inr (Or.inr (Or.inr (Or.inl ⟨k, nn, rfl⟩))))))
  have ret (k) : TransfersControl (retIfI k) := by simp [TransfersControl]
  have rst (y) : TransfersControl (rstI y) := by simp [TransfersControl]
  revert h
  cases i <;> intro h <;> first
    | (cases h; done)
    | exact Or.inr (Or.inl rfl)
    | exact Or.inr (Or.inr rfl)
    | exact Or.inl (jp .nz _) | exact Or.inl (jp .z _) | exact Or.inl (jp .nc _) | exact Or.inl (jp .c _)
    | exact Or.inl (jr .nz _) | exact Or.inl (jr .z _) | exact Or.inl (jr .nc _) | exact Or.inl (jr .c _)
    | exact Or.inl (call .nz _) | exact Or.inl (call .z _) | exact Or.inl (call .nc _) | exact Or.inl (call .c _)
    | exact Or.inl (ret .nz) | exact Or.inl (ret .z) | exact Or.inl (ret .nc) | exact Or.inl (ret .c)
    | exact Or.inl (rst 0) | exact Or.inl (rst 1) | exact Or.inl (rst 2) | exact Or.inl (rst 3)
    | exact Or.inl (rst 4) | exact Or.inl (rst 5) | exact Or.inl (rst 6) | exact Or.inl (rst 7)
    | exact Or.inl (by simp [TransfersControl])

/-- HALT is the one instruction of its shape. -/
theorem halt_of_shape (i : Instr) (h : shapeOf i = .halt) : i = .halt := by
  revert h; cases i <;> intro h <;> first | rfl | cases h

theorem isIllegal_of_isJump (i : Instr) (h : i.isJump = true) : i.isIllegal = false := by
  cases i <;> first | rfl | cases h

/-- A jump writes PC, from PC, HL, F and the halt bug alone, uses up the halt bug, reports its cycles and changes nothing
else. -/
theorem exec_jump (i : Instr) (h : i.isJump = true) : ∃ g : Word → Word → Byte → Bool → Word, ∀ s : State,
    ∃ t, exec i s = .next t ∧ t.pc = g s.pc s.hl s.f s.haltBug ∧
      t = { s with pc := t.pc, haltBug := false, cycles := t.cycles } := by
  have jmp (op : Nat) (k : Cond) (nn : Word) : ∃ g : Word → Word → Byte → Bool → Word, ∀ s : State,
      ∃ t, jumpIf op k nn s = .next t ∧ t.pc = g s.pc s.hl s.f s.haltBug ∧
        t = { s with pc := t.pc, haltBug := false, cycles := t.cycles } := by
    refine ⟨fun pc _ f b =>
      if k.holds (Flags.ofByte f) then nn else pc + BitVec.ofNat 16 (if b then 3 - 1 else 3), fun s => ?_⟩
    unfold jumpIf
    split
    · rename_i h; exact ⟨_, rfl, (if_pos h).symm, rfl⟩
    · rename_i h; exact ⟨_, rfl, (if_neg h).symm, rfl⟩
  have rel (op : Nat) (k : Cond) (e : Byte) : ∃ g : Word → Word → Byte → Bool → Word, ∀ s : State,
      ∃ t, relativeIf op k e s = .next t ∧ t.pc = g s.pc s.hl s.f s.haltBug ∧
        t = { s with pc := t.pc, haltBug := false, cycles := t.cycles } := by
    refine ⟨fun pc _ f b =>
      if k.holds (Flags.ofByte f) then pc + BitVec.ofNat 16 (if b then 2 - 1 else 2) + sext16 e
      else pc + BitVec.ofNat 16 (if b then 2 - 1 else 2), fun s => ?_⟩
    unfold relativeIf
    split
    · rename_i h; exact ⟨_, rfl, (if_pos h).symm, rfl⟩
    · rename_i h; exact ⟨_, rfl, (if_neg h).symm, rfl⟩
  cases i
  case jp_nn nn => exact ⟨fun _ _ _ _ => nn, fun s => ⟨_, rfl, rfl, rfl⟩⟩
  case jp_HL => exact ⟨fun _ hl _ _ => hl, fun s => ⟨_, rfl, rfl, rfl⟩⟩
  case jr_e e => exact ⟨fun pc _ _ b => pc + BitVec.ofNat 16 (if b then 2 - 1 else 2) + sext16 e, fun s => ⟨_, rfl, rfl, rfl⟩⟩
  all_goals first | (cases h; done) | exact jmp _ _ _ | exact rel _ _ _

/-- What a dispatch leaves of the fields it does not write (R291). -/
theorem dispatchInterrupt_steady (s : State) : Steady s s.dispatchInterrupt := by
  refine ((Steady.refl s).push16 s.pc).trans (.of_eq ?_ ?_ ?_ ?_ ?_ ?_) <;> unfold State.dispatchInterrupt <;> rfl

end Sys2Proof.Machine
end

