-- ==== Sys2Proof/Tests/Slice0.lean ====
section
/-!
SUPPORT. The model's own tests: the ill-formed term of each check, every constructor's decoding from the bytes that
rules R115 and R116 give it, one step or so per instruction family with the result the spec prints, and for every
statement with hypotheses a state that meets them. No expected result here was taken from the model.
-/
open Sys2Proof Sys2Proof.Machine Sys2Proof.Stated

namespace Sys2Proof.Tests

/-! ### Well-formedness -/

theorem test_prefix_alone_is_ill_formed : Instr.wellFormed .cbPrefix = false := by decide
theorem test_halt_is_well_formed : Instr.wellFormed .halt = true := by decide

/-! ### Decoding: the base map (R115), low operand byte 0x34, high operand byte 0x12 (R105) -/

/-- Whether the two bytes after `op` make each instruction of the list, for `op`, `op + 1`, and so on. -/
def decodesRow : Byte → List Instr → Bool
  | _, [] => true
  | op, i :: is =>
    (match decode [op, 0x34, 0x12] with
     | .ok (j, rest) => decide (j = i) && decide (rest.length + lengthOf op = 3)
     | .error _ => false) && decodesRow (op + 1) is

theorem test_decode_row_0 : decodesRow 0x00
    [.nop, .ld_BC_nn 0x1234, .ld_mBC_A, .inc_BC, .inc_B, .dec_B, .ld_B_n 0x34, .rlca, .ld_mnn_SP 0x1234,
     .add_HL_BC, .ld_A_mBC, .dec_BC, .inc_C, .dec_C, .ld_C_n 0x34, .rrca] = true := by decide
theorem test_decode_row_1 : decodesRow 0x10
    [.stop, .ld_DE_nn 0x1234, .ld_mDE_A, .inc_DE, .inc_D, .dec_D, .ld_D_n 0x34, .rla, .jr_e 0x34, .add_HL_DE,
     .ld_A_mDE, .dec_DE, .inc_E, .dec_E, .ld_E_n 0x34, .rra] = true := by decide
theorem test_decode_row_2 : decodesRow 0x20
    [.jr_NZ_e 0x34, .ld_HL_nn 0x1234, .ld_HLinc_A, .inc_HL, .inc_H, .dec_H, .ld_H_n 0x34, .daa, .jr_Z_e 0x34,
     .add_HL_HL, .ld_A_HLinc, .dec_HL, .inc_L, .dec_L, .ld_L_n 0x34, .cpl] = true := by decide
theorem test_decode_row_3 : decodesRow 0x30
    [.jr_NC_e 0x34, .ld_SP_nn 0x1234, .ld_HLdec_A, .inc_SP, .inc_mHL, .dec_mHL, .ld_mHL_n 0x34, .scf,
     .jr_C_e 0x34, .add_HL_SP, .ld_A_HLdec, .dec_SP, .inc_A, .dec_A, .ld_A_n 0x34, .ccf] = true := by decide
theorem test_decode_row_4 : decodesRow 0x40
    [.ld_B_B, .ld_B_C, .ld_B_D, .ld_B_E, .ld_B_H, .ld_B_L, .ld_B_mHL, .ld_B_A, .ld_C_B, .ld_C_C, .ld_C_D,
     .ld_C_E, .ld_C_H, .ld_C_L, .ld_C_mHL, .ld_C_A] = true := by decide
theorem test_decode_row_5 : decodesRow 0x50
    [.ld_D_B, .ld_D_C, .ld_D_D, .ld_D_E, .ld_D_H, .ld_D_L, .ld_D_mHL, .ld_D_A, .ld_E_B, .ld_E_C, .ld_E_D,
     .ld_E_E, .ld_E_H, .ld_E_L, .ld_E_mHL, .ld_E_A] = true := by decide
theorem test_decode_row_6 : decodesRow 0x60
    [.ld_H_B, .ld_H_C, .ld_H_D, .ld_H_E, .ld_H_H, .ld_H_L, .ld_H_mHL, .ld_H_A, .ld_L_B, .ld_L_C, .ld_L_D,
     .ld_L_E, .ld_L_H, .ld_L_L, .ld_L_mHL, .ld_L_A] = true := by decide
theorem test_decode_row_7 : decodesRow 0x70
    [.ld_mHL_B, .ld_mHL_C, .ld_mHL_D, .ld_mHL_E, .ld_mHL_H, .ld_mHL_L, .halt, .ld_mHL_A, .ld_A_B, .ld_A_C,
     .ld_A_D, .ld_A_E, .ld_A_H, .ld_A_L, .ld_A_mHL, .ld_A_A] = true := by decide
theorem test_decode_row_8 : decodesRow 0x80
    [.add_A_B, .add_A_C, .add_A_D, .add_A_E, .add_A_H, .add_A_L, .add_A_mHL, .add_A_A, .adc_A_B, .adc_A_C,
     .adc_A_D, .adc_A_E, .adc_A_H, .adc_A_L, .adc_A_mHL, .adc_A_A] = true := by decide
theorem test_decode_row_9 : decodesRow 0x90
    [.sub_B, .sub_C, .sub_D, .sub_E, .sub_H, .sub_L, .sub_mHL, .sub_A, .sbc_A_B, .sbc_A_C, .sbc_A_D, .sbc_A_E,
     .sbc_A_H, .sbc_A_L, .sbc_A_mHL, .sbc_A_A] = true := by decide
theorem test_decode_row_A : decodesRow 0xA0
    [.and_B, .and_C, .and_D, .and_E, .and_H, .and_L, .and_mHL, .and_A, .xor_B, .xor_C, .xor_D, .xor_E, .xor_H,
     .xor_L, .xor_mHL, .xor_A] = true := by decide
theorem test_decode_row_B : decodesRow 0xB0
    [.or_B, .or_C, .or_D, .or_E, .or_H, .or_L, .or_mHL, .or_A, .cp_B, .cp_C, .cp_D, .cp_E, .cp_H, .cp_L,
     .cp_mHL, .cp_A] = true := by decide
theorem test_decode_row_C : decodesRow 0xC0
    [.ret_NZ, .pop_BC, .jp_NZ_nn 0x1234, .jp_nn 0x1234, .call_NZ_nn 0x1234, .push_BC, .add_A_n 0x34, .rst_00,
     .ret_Z, .ret, .jp_Z_nn 0x1234] &&
    decodesRow 0xCC [.call_Z_nn 0x1234, .call_nn 0x1234, .adc_A_n 0x34, .rst_08] = true := by decide
theorem test_decode_row_D : decodesRow 0xD0
    [.ret_NC, .pop_DE, .jp_NC_nn 0x1234, .illegal_D3, .call_NC_nn 0x1234, .push_DE, .sub_n 0x34, .rst_10,
     .ret_C, .reti, .jp_C_nn 0x1234, .illegal_DB, .call_C_nn 0x1234, .illegal_DD, .sbc_A_n 0x34, .rst_18] = true := by decide
theorem test_decode_row_E : decodesRow 0xE0
    [.ldh_mn_A 0x34, .pop_HL, .ldh_mC_A, .illegal_E3, .illegal_E4, .push_HL, .and_n 0x34, .rst_20,
     .add_SP_e 0x34, .jp_HL, .ld_mnn_A 0x1234, .illegal_EB, .illegal_EC, .illegal_ED, .xor_n 0x34, .rst_28] = true := by decide
theorem test_decode_row_F : decodesRow 0xF0
    [.ldh_A_mn 0x34, .pop_AF, .ldh_A_mC, .di, .illegal_F4, .push_AF, .or_n 0x34, .rst_30, .ld_HL_SPe 0x34,
     .ld_SP_HL, .ld_A_mnn 0x1234, .ei, .illegal_FC, .illegal_FD, .cp_n 0x34, .rst_38] = true := by decide

theorem test_decode_prefix_alone : decode [0xCB] = .ok (.cbPrefix, []) := by rfl
theorem test_decode_nothing : decode [] = .error .noOpcode := by rfl
theorem test_decode_missing_operand : decode [0xC3, 0x00] = .error .operandMissing := by rfl

/-! ### Decoding: the CB map (R116), two half rows at a time, in the operand order B, C, D, E, H, L, (HL), A -/

/-- Whether `0xCB op2` makes each instruction of the list, for `op2`, `op2 + 1`, and so on. -/
def decodesCb : Byte → List Instr → Bool
  | _, [] => true
  | op2, i :: is =>
    (match decode [0xCB, op2, 0x12] with
     | .ok (j, rest) => decide (j = i) && decide (rest = [0x12])
     | .error _ => false) && decodesCb (op2 + 1) is

theorem test_decode_cb_0 : decodesCb 0x00
    [.rlc_B, .rlc_C, .rlc_D, .rlc_E, .rlc_H, .rlc_L, .rlc_mHL, .rlc_A, .rrc_B, .rrc_C, .rrc_D, .rrc_E, .rrc_H,
     .rrc_L, .rrc_mHL, .rrc_A] = true := by decide
theorem test_decode_cb_1 : decodesCb 0x10
    [.rl_B, .rl_C, .rl_D, .rl_E, .rl_H, .rl_L, .rl_mHL, .rl_A, .rr_B, .rr_C, .rr_D, .rr_E, .rr_H, .rr_L,
     .rr_mHL, .rr_A] = true := by decide
theorem test_decode_cb_2 : decodesCb 0x20
    [.sla_B, .sla_C, .sla_D, .sla_E, .sla_H, .sla_L, .sla_mHL, .sla_A, .sra_B, .sra_C, .sra_D, .sra_E, .sra_H,
     .sra_L, .sra_mHL, .sra_A] = true := by decide
theorem test_decode_cb_3 : decodesCb 0x30
    [.swap_B, .swap_C, .swap_D, .swap_E, .swap_H, .swap_L, .swap_mHL, .swap_A, .srl_B, .srl_C, .srl_D, .srl_E,
     .srl_H, .srl_L, .srl_mHL, .srl_A] = true := by decide
theorem test_decode_cb_4 : decodesCb 0x40
    [.bit_0_B, .bit_0_C, .bit_0_D, .bit_0_E, .bit_0_H, .bit_0_L, .bit_0_mHL, .bit_0_A, .bit_1_B, .bit_1_C,
     .bit_1_D, .bit_1_E, .bit_1_H, .bit_1_L, .bit_1_mHL, .bit_1_A] = true := by decide
theorem test_decode_cb_5 : decodesCb 0x50
    [.bit_2_B, .bit_2_C, .bit_2_D, .bit_2_E, .bit_2_H, .bit_2_L, .bit_2_mHL, .bit_2_A, .bit_3_B, .bit_3_C,
     .bit_3_D, .bit_3_E, .bit_3_H, .bit_3_L, .bit_3_mHL, .bit_3_A] = true := by decide
theorem test_decode_cb_6 : decodesCb 0x60
    [.bit_4_B, .bit_4_C, .bit_4_D, .bit_4_E, .bit_4_H, .bit_4_L, .bit_4_mHL, .bit_4_A, .bit_5_B, .bit_5_C,
     .bit_5_D, .bit_5_E, .bit_5_H, .bit_5_L, .bit_5_mHL, .bit_5_A] = true := by decide
theorem test_decode_cb_7 : decodesCb 0x70
    [.bit_6_B, .bit_6_C, .bit_6_D, .bit_6_E, .bit_6_H, .bit_6_L, .bit_6_mHL, .bit_6_A, .bit_7_B, .bit_7_C,
     .bit_7_D, .bit_7_E, .bit_7_H, .bit_7_L, .bit_7_mHL, .bit_7_A] = true := by decide
theorem test_decode_cb_8 : decodesCb 0x80
    [.res_0_B, .res_0_C, .res_0_D, .res_0_E, .res_0_H, .res_0_L, .res_0_mHL, .res_0_A, .res_1_B, .res_1_C,
     .res_1_D, .res_1_E, .res_1_H, .res_1_L, .res_1_mHL, .res_1_A] = true := by decide
theorem test_decode_cb_9 : decodesCb 0x90
    [.res_2_B, .res_2_C, .res_2_D, .res_2_E, .res_2_H, .res_2_L, .res_2_mHL, .res_2_A, .res_3_B, .res_3_C,
     .res_3_D, .res_3_E, .res_3_H, .res_3_L, .res_3_mHL, .res_3_A] = true := by decide
theorem test_decode_cb_A : decodesCb 0xA0
    [.res_4_B, .res_4_C, .res_4_D, .res_4_E, .res_4_H, .res_4_L, .res_4_mHL, .res_4_A, .res_5_B, .res_5_C,
     .res_5_D, .res_5_E, .res_5_H, .res_5_L, .res_5_mHL, .res_5_A] = true := by decide
theorem test_decode_cb_B : decodesCb 0xB0
    [.res_6_B, .res_6_C, .res_6_D, .res_6_E, .res_6_H, .res_6_L, .res_6_mHL, .res_6_A, .res_7_B, .res_7_C,
     .res_7_D, .res_7_E, .res_7_H, .res_7_L, .res_7_mHL, .res_7_A] = true := by decide
theorem test_decode_cb_C : decodesCb 0xC0
    [.set_0_B, .set_0_C, .set_0_D, .set_0_E, .set_0_H, .set_0_L, .set_0_mHL, .set_0_A, .set_1_B, .set_1_C,
     .set_1_D, .set_1_E, .set_1_H, .set_1_L, .set_1_mHL, .set_1_A] = true := by decide
theorem test_decode_cb_D : decodesCb 0xD0
    [.set_2_B, .set_2_C, .set_2_D, .set_2_E, .set_2_H, .set_2_L, .set_2_mHL, .set_2_A, .set_3_B, .set_3_C,
     .set_3_D, .set_3_E, .set_3_H, .set_3_L, .set_3_mHL, .set_3_A] = true := by decide
theorem test_decode_cb_E : decodesCb 0xE0
    [.set_4_B, .set_4_C, .set_4_D, .set_4_E, .set_4_H, .set_4_L, .set_4_mHL, .set_4_A, .set_5_B, .set_5_C,
     .set_5_D, .set_5_E, .set_5_H, .set_5_L, .set_5_mHL, .set_5_A] = true := by decide
theorem test_decode_cb_F : decodesCb 0xF0
    [.set_6_B, .set_6_C, .set_6_D, .set_6_E, .set_6_H, .set_6_L, .set_6_mHL, .set_6_A, .set_7_B, .set_7_C,
     .set_7_D, .set_7_E, .set_7_H, .set_7_L, .set_7_mHL, .set_7_A] = true := by decide

/-! ### The table's numbering (log entry 6): a CB row is `0xCB` and the second byte as one 16-bit number (R122) -/

theorem test_table_word_base : decodeTableWord 24 0x0000C3 = some (.jp_nn 0x0000) := by rfl
theorem test_table_word_cb : decodeTableWord 16 0xCB7C = some .bit_7_H := by rfl
theorem test_table_word_prefix : decodeTableWord 8 0xCB = some .cbPrefix := by rfl

/-! ### Words written bit by bit from the formats (R101, R105, R112), one for each family -/

theorem test_bits_ld : decode [0b01_010_110] = .ok (.ld_D_mHL, []) := by rfl
theorem test_bits_ld_pair : decode [0b00_11_0_001, 0xFE, 0xFF] = .ok (.ld_SP_nn 0xFFFE, []) := by rfl
theorem test_bits_push : decode [0b11_11_0_101] = .ok (.push_AF, []) := by rfl
theorem test_bits_alu : decode [0b10_011_001] = .ok (.sbc_A_C, []) := by rfl
theorem test_bits_alu_imm : decode [0b11_101_110, 0x0F] = .ok (.xor_n 0x0F, []) := by rfl
theorem test_bits_inc : decode [0b00_110_100] = .ok (.inc_mHL, []) := by rfl
theorem test_bits_add_hl : decode [0b00_01_1_001] = .ok (.add_HL_DE, []) := by rfl
theorem test_bits_rotate : decode [0xCB, 0b00_011_010] = .ok (.rr_D, []) := by rfl
theorem test_bits_res : decode [0xCB, 0b10_101_111] = .ok (.res_5_A, []) := by rfl
theorem test_bits_jr : decode [0b00_111_000, 0xFE] = .ok (.jr_C_e 0xFE, []) := by rfl
theorem test_bits_call : decode [0b11_010_100, 0x34, 0x12] = .ok (.call_NC_nn 0x1234, []) := by rfl
theorem test_bits_rst : decode [0b11_101_111] = .ok (.rst_28, []) := by rfl
theorem test_bits_control : decode [0b11_111_011] = .ok (.ei, []) := by rfl
theorem test_bits_undefined : decode [0b11_101_011] = .ok (.illegal_EB, []) := by rfl

/-! ### One step each, with the results that the example lines of the rules print -/

/-- The state the spec's vectors start from (spec/95_test_vectors.md, Conventions): reset, with the five I/O registers
zero. -/
def start : State := { State.reset with div := 0, tac := 0, iflag := 0 }

/-- A state with bytes placed at PC by the back door. -/
def State.at (s : State) (code : List Byte) : State := s.loadBytes s.pc code

/-- The state after one step, or the state itself where there is none. -/
def after (s : State) : State :=
  match step s with
  | .next t => t
  | _ => s

/-- R130: `LD B,A`. -/
theorem test_ld_r_r : let t := after (State.at { start with a := 0x5A } [0x47]); t.b = 0x5A ∧ t.pc = 0x0101 := by decide
/-- R131 (the document): `3E 05`. -/
theorem test_ld_r_n : let t := after (State.at start [0x3E, 0x05]); t.a = 0x05 ∧ t.pc = 0x0102 := by decide
/-- R132: the address is formed before H is overwritten. -/
theorem test_ld_h_from_memory : let t := after (State.at { start with h := 0xC0, l := 0x00, mem := [(0xC000, 0x5A)] } [0x66]); t.h = 0x5A ∧ t.l = 0x00 := by decide
/-- R133: `77` with HL = 0xC010, and the echo. -/
theorem test_ld_mem_r : let t := after (State.at { start with h := 0xC0, l := 0x10, a := 0x42 } [0x77]); t.memRead 0xC010 = 0x42 ∧ t.memRead 0xE010 = 0x42 := by decide
/-- R134: `36 FF`. -/
theorem test_ld_mem_n : let t := after (State.at { start with h := 0xFF, l := 0x80 } [0x36, 0xFF]); t.memRead 0xFF80 = 0xFF := by decide
/-- R140: `EA FF FF`. -/
theorem test_ld_nn_a : let t := after (State.at { start with a := 0x04 } [0xEA, 0xFF, 0xFF]); t.ie = 0x04 := by decide
/-- R139: `FA 0F FF` reads IF. -/
theorem test_ld_a_nn : let t := after (State.at { start with iflag := 0x12 } [0xFA, 0x0F, 0xFF]); t.a = 0x12 := by decide
/-- R143: `E0 07`. -/
theorem test_ldh_n_a : let t := after (State.at { start with a := 0x05 } [0xE0, 0x07]); t.tac = 0x05 := by decide
/-- R145: `E2` with C = 0x13. -/
theorem test_ldh_c_a : let t := after (State.at start [0xE2]); t.memRead 0xFF13 = 0x01 := by decide
/-- R142: `2A`. -/
theorem test_ld_hl_inc : let t := after (State.at { start with h := 0xC0, l := 0x01, mem := [(0xC001, 0x22)] } [0x2A]); t.a = 0x22 ∧ t.hl = 0xC002 := by decide
/-- R141: HL = 0xFFFF stores to IE and wraps. -/
theorem test_ld_hl_inc_wraps : let t := after (State.at { start with h := 0xFF, l := 0xFF, a := 0x15 } [0x22]); t.ie = 0x15 ∧ t.hl = 0x0000 := by decide
/-- R147: `32` with HL = 0x9FFF. -/
theorem test_ld_hl_dec : let t := after (State.at { start with h := 0x9F, l := 0xFF, a := 0x33 } [0x32]); t.memRead 0x9FFF = 0x33 ∧ t.hl = 0x9FFE := by decide
/-- R160: `21 10 C0`. -/
theorem test_ld_pair : let t := after (State.at start [0x21, 0x10, 0xC0]); t.hl = 0xC010 := by decide
/-- R161: `08 00 C1` with SP = 0xFFFE. -/
theorem test_ld_nn_sp : let t := after (State.at start [0x08, 0x00, 0xC1]); t.memRead 0xC100 = 0xFE ∧ t.memRead 0xC101 = 0xFF := by decide
/-- R162. -/
theorem test_ld_sp_hl : let t := after (State.at { start with h := 0xD0, l := 0x00 } [0xF9]); t.sp = 0xD000 := by decide
/-- R165: `C5` with BC = 0x1234, SP = 0xFFFE. -/
theorem test_push : let t := after (State.at { start with b := 0x12, c := 0x34 } [0xC5]); t.sp = 0xFFFC ∧ t.memRead 0xFFFD = 0x12 ∧ t.memRead 0xFFFC = 0x34 := by decide
/-- R166: `F1`. -/
theorem test_pop_af : let t := after (State.at { start with sp := 0xC000, mem := [(0xC000, 0xFF), (0xC001, 0x12)] } [0xF1]); t.a = 0x12 ∧ t.f = 0xF0 ∧ t.sp = 0xC002 := by decide
/-- R170: `80` with A = 0x3A, B = 0xC6. -/
theorem test_add_wraps : let t := after (State.at { start with a := 0x3A, b := 0xC6 } [0x80]); t.a = 0x00 ∧ t.f = 0xB0 := by decide
/-- R171: `CE 0F` with A = 0xE1 and the carry set. -/
theorem test_adc : let t := after (State.at { start with a := 0xE1, f := 0x10 } [0xCE, 0x0F]); t.a = 0xF1 ∧ t.f = 0x20 := by decide
/-- R172. -/
theorem test_sub_equal : let t := after (State.at { start with a := 0x3E, b := 0x3E } [0x90]); t.a = 0x00 ∧ t.f = 0xC0 := by decide
/-- R173: `DE 3A`. -/
theorem test_sbc : let t := after (State.at { start with a := 0x3B, f := 0x10 } [0xDE, 0x3A]); t.a = 0x00 ∧ t.f = 0xC0 := by decide
/-- R177: `FE 90`. -/
theorem test_cp_keeps_a : let t := after (State.at { start with a := 0x3C } [0xFE, 0x90]); t.a = 0x3C ∧ t.f = 0x50 := by decide
/-- R174: `E6 0F`. -/
theorem test_and : let t := after (State.at { start with a := 0x5A } [0xE6, 0x0F]); t.a = 0x0A ∧ t.f = 0x20 := by decide
/-- R175: `AF`. -/
theorem test_xor_self : let t := after (State.at start [0xAF]); t.a = 0x00 ∧ t.f = 0x80 := by decide
/-- R176: `B1`. -/
theorem test_or : let t := after (State.at { start with a := 0x50, c := 0x05 } [0xB1]); t.a = 0x55 ∧ t.f = 0x00 := by decide
/-- R181: `34`, byte 0xFF, C unchanged. -/
theorem test_inc_mem_wraps : let t := after (State.at { start with h := 0xC0, l := 0x00, f := 0x10, mem := [(0xC000, 0xFF)] } [0x34]); t.memRead 0xC000 = 0x00 ∧ t.f = 0xB0 := by decide
/-- R182: `05` with B = 0x01, F = 0x10. -/
theorem test_dec_to_zero : let t := after (State.at { start with b := 0x01, f := 0x10 } [0x05]); t.b = 0x00 ∧ t.f = 0xD0 := by decide
/-- R185: after `ADD` of 0x15 and 0x27. -/
theorem test_daa_after_add : let t := after (State.at { start with a := 0x3C, f := 0x00 } [0x27]); t.a = 0x42 := by decide
/-- R187: `37` with F = 0xE0. -/
theorem test_scf : let t := after (State.at { start with f := 0xE0 } [0x37]); t.f = 0x90 := by decide
/-- R188: `3F` with F = 0x90. -/
theorem test_ccf : let t := after (State.at { start with f := 0x90 } [0x3F]); t.f = 0x80 := by decide
/-- R201: `13` with DE = 0x00FF. -/
theorem test_inc_pair : let t := after (State.at { start with d := 0x00, e := 0xFF } [0x13]); t.d = 0x01 ∧ t.e = 0x00 ∧ t.f = 0xB0 := by decide
/-- R200: `09` with HL = 0x8A23, BC = 0x0605: H out of bit 11, Z kept. -/
theorem test_add_hl : let t := after (State.at { start with h := 0x8A, l := 0x23, b := 0x06, c := 0x05 } [0x09]); t.hl = 0x9028 ∧ t.f = 0xA0 := by decide
/-- R218: `CB 1A` with D = 0x8A and the carry set. -/
theorem test_rr : let t := after (State.at { start with d := 0x8A, f := 0x10 } [0xCB, 0x1A]); t.d = 0xC5 ∧ t.f = 0x00 := by decide
/-- R219: `CB 27`. -/
theorem test_sla : let t := after (State.at { start with a := 0xC1 } [0xCB, 0x27]); t.a = 0x82 ∧ t.f = 0x10 := by decide
/-- R221: `CB 37`. -/
theorem test_swap : let t := after (State.at { start with a := 0xF1 } [0xCB, 0x37]); t.a = 0x1F ∧ t.f = 0x00 := by decide
/-- R222: `CB 3F`. -/
theorem test_srl : let t := after (State.at { start with a := 0xFF } [0xCB, 0x3F]); t.a = 0x7F ∧ t.f = 0x10 := by decide
/-- R227: `CB FE`. -/
theorem test_set_mem : let t := after (State.at { start with h := 0xC0, l := 0x00 } [0xCB, 0xFE]); t.memRead 0xC000 = 0x80 ∧ t.f = 0xB0 ∧ t.cycles = 4 := by decide
/-- R243. -/
theorem test_jp_hl : let t := after (State.at { start with h := 0x01, l := 0x4D } [0xE9]); t.pc = 0x014D ∧ t.cycles = 1 := by decide
/-- R242: `CA 50 01` at 0x0200 with Z = 1. -/
theorem test_jp_cc : let t := after (State.at { start with pc := 0x0200, f := 0x80 } [0xCA, 0x50, 0x01]); t.pc = 0x0150 ∧ t.cycles = 4 := by decide
/-- R244: a displacement of -2 is a jump to itself. -/
theorem test_jr_back : let t := after (State.at start [0x18, 0xFE]); t.pc = 0x0100 := by decide
/-- R248: `C9`. -/
theorem test_ret : let t := after (State.at { start with sp := 0xFFFC, mem := [(0xFFFC, 0x53), (0xFFFD, 0x01)] } [0xC9]); t.pc = 0x0153 ∧ t.sp = 0xFFFE := by decide
/-- R249: `C8` with Z = 0. -/
theorem test_ret_cc_not_taken : let t := after (State.at { start with f := 0x00 } [0xC8]); t.pc = 0x0101 ∧ t.sp = 0xFFFE ∧ t.cycles = 2 := by decide
/-- R280. -/
theorem test_undefined_byte : let t := after (State.at start [0xD3]); t.fault = some ⟨.undefinedOpcode, 0x0100, 0xD3⟩ ∧ t.pc = 0x0100 ∧ t.divCounter = 0 := by decide
/-- R67. -/
theorem test_store_to_rom_is_dropped : let t := after (State.at { start with h := 0x01, l := 0x01, a := 0x42 } [0x77]); t.memRead 0x0101 = 0x00 := by decide
/-- R306: DIV and its accumulator are cleared, then the step’s two cycles elapse. -/
theorem test_store_to_div_resets : let t := after (State.at { start with h := 0xFF, l := 0x04, a := 0x42, div := 0x77, divCounter := 9 } [0x77]); t.div = 0x00 ∧ t.divCounter = 2 := by decide
/-- R302: TIMA overflows into TMA and requests its interrupt. -/
theorem test_tima_overflow : let t := State.timerAdvance { start with tima := 0xFF, tma := 0x23, tac := 0x05 } 4;
    t.tima = 0x23 ∧ t.iflag = 0x04 ∧ t.timaCounter = 0 := by decide
/-- W6.1 of spec/95_test_vectors.md: the halt bug runs INC A twice. -/
theorem test_halt_bug : let t := after (after (after (State.at { start with iflag := 0x04, ie := 0x04 }
    [0x76, 0x3C, 0x00]))); t.a = 0x03 ∧ t.pc = 0x0102 := by decide
/-- W6.5: with IME set and a request pending the step dispatches, and HALT is not executed. -/
theorem test_dispatch : let t := after (State.at { start with ime := true, iflag := 0x04, ie := 0x04 } [0x76]);
    t.pc = 0x0050 ∧ t.sp = 0xFFFC ∧ t.memRead 0xFFFD = 0x01 ∧ t.memRead 0xFFFC = 0x00 ∧ t.iflag = 0x00 ∧
      t.ime = false ∧ t.cycles = 5 := by decide

/-! ### The meanings complete at these operands: exec's own answer for the forms a step cannot single out -/

theorem test_prefix_row_runs_its_entry :
    exec .cbPrefix (State.at { start with a := 0x80 } [0xCB, 0x27]) =
      exec .sla_A (State.at { start with a := 0x80 } [0xCB, 0x27]) := by rfl

/-! ### Witnesses: for every statement with hypotheses, states and operands that meet them -/

/-- Work RAM and HRAM with bytes in them. -/
def used : State := { start with mem := [(0xC000, 0x12), (0xFFFC, 0x53), (0xFFFD, 0x01)] }

/-- `Memory.wf s.mem`, the one hypothesis of the statements about stores: StoreByteToMemoryAtHL, StoreAccumulator,
AccumulatorWithHLStepping, StoreStackPointer, PushPair, IncrementAndDecrementByte, RotateAndShift, Call,
NoAliasingButTheEcho, StoreFollowsTheWritePath. -/
theorem witness_memory : Memory.wf used.mem ∧ Memory.wf State.reset.mem := by decide
theorem witness_acc_load : (⟨.ldh_A_mC, [0xF2], 0xFF00 + used.c.setWidth 16, 2⟩ : AccForm) ∈ accLoads used 0x34 0x1234 := by
  simp [accLoads]
theorem witness_acc_store : (⟨.ld_mBC_A, [0x02], used.b ++ used.c, 2⟩ : AccForm) ∈ accStores used 0x34 0x1234 := by
  simp [accStores]
/-- PushThenPopReturnsPair, at both ends of its range of addresses. -/
theorem witness_push_pop : Memory.wf used.mem ∧ ({ used with f := 0xB0 } : State).f &&& 0x0F = 0 ∧
    (∀ a ∈ [(0xFFFE : Word) - 1, 0xFFFE - 2], 0x8000 ≤ a.toNat ∧ a ≠ 0xFF04) ∧
    (∀ a ∈ [(0x8002 : Word) - 1, 0x8002 - 2], 0x8000 ≤ a.toNat ∧ a ≠ 0xFF04) ∧
    (∀ a ∈ [(0x0000 : Word) - 1, 0x0000 - 2], 0x8000 ≤ a.toNat ∧ a ≠ 0xFF04) := by
  refine ⟨by decide, by decide, ?_, ?_, ?_⟩ <;> simp
/-- TestBit and ResetAndSetBit, the first and the last bit; Restart, the first and the last target. -/
theorem witness_bit : 0 < 8 ∧ 7 < 8 := by decide
theorem witness_res_set : ((resI 7 .memHL, (2 : BitVec 2), false) : Instr × BitVec 2 × Bool) ∈
      [(resI 7 .memHL, (2 : BitVec 2), false), (setI 7 .memHL, (3 : BitVec 2), true)] := by simp
theorem witness_round_trip : Instr.wellFormed (.ld_SP_nn 0xFFFE) = true ∧ Instr.wellFormed .illegal_FD = true := by
  decide
theorem witness_decode : decode [0x31, 0xFE, 0xFF, 0x00] = .ok (.ld_SP_nn 0xFFFE, [0x00]) ∧
    decode [0xCB, 0xFF, 0x00] = .ok (.set_7_A, [0x00]) ∧ decode [0xD3, 0x00] = .ok (.illegal_D3, [0x00]) := by
  exact ⟨rfl, rfl, rfl⟩
theorem witness_illegal_row : (.illegal_FD, 0xFD) ∈ illegalRows := by decide
theorem witness_running : start.runState = .running := by rfl
theorem witness_legal_and_illegal : Instr.isIllegal .nop = false ∧ Instr.isIllegal .illegal_D3 = true := by decide

/-- StepRunsDecodedInstruction: a step that executes INC A. -/
theorem witness_step : let s := State.at start [0x3C]
    s.runState = .running ∧ Executes s.environment ∧ AtPc s.environment .inc_A ∧
      ∃ d, exec .inc_A s.environment.wake = .next d := by
  exact ⟨rfl, ⟨rfl, Or.inl rfl, Or.inl rfl⟩, ⟨_, rfl⟩, exec_next _ _⟩
/-- The same of a core that a request wakes with IME clear: the third clause of `Executes`. -/
theorem witness_step_woken : let s := State.at { start with halted := true, iflag := 0x01, ie := 0x01 } [0x3C]
    s.runState = .running ∧ Executes s.environment ∧ AtPc s.environment .inc_A := by
  refine ⟨rfl, ⟨rfl, Or.inl rfl, Or.inr (by decide)⟩, ⟨_, rfl⟩⟩
/-- StuckOnlyWhenFaultedOrStopped: the two stuck states. -/
theorem witness_stuck : ({ start with runState := .faulted ⟨.undefinedOpcode, 0, 0xD3⟩ } : State).runState =
      .faulted ⟨.undefinedOpcode, 0, 0xD3⟩ ∧ ({ start with runState := .stopped } : State).runState = .stopped := by
  exact ⟨rfl, rfl⟩
theorem witness_faulting_step : let s := State.at start [0xFD]
    step s = .next { s with runState := .faulted ⟨.undefinedOpcode, 0x0100, 0xFD⟩, cycles := 0 } := by rfl
/-- DispatchTakesLowestSource: the first source with another pending, the last source alone, and a source that a move
of the environment raises just before the step. -/
theorem witness_dispatch : let s := { used with ime := true, iflag := 0xFF, ie := 0xFF }
    let u := { used with ime := true, iflag := 0x10, ie := 0x1F }
    let e := { used with ime := true, ie := 0x1F, env := [[.raise 0x0C]] }
    Memory.wf s.mem ∧ s.runState = .running ∧ s.environment.ime = true ∧
      (s.environment.pending.getLsbD 0 = true ∧ ∀ j, j < 0 → s.environment.pending.getLsbD j = false) ∧
      (u.environment.pending.getLsbD 4 = true ∧ ∀ j, j < 4 → u.environment.pending.getLsbD j = false) ∧
      (e.environment.pending.getLsbD 3 = true ∧ ∀ j, j < 3 → e.environment.pending.getLsbD j = false) := by decide
/-- HaltedStepIdlesOrWakes: each clause. -/
theorem witness_halted : let s := { start with halted := true }
    let u := State.at { start with halted := true, iflag := 0x10, ie := 0x10 } [0x3C]
    (s.runState = .running ∧ s.halted = true ∧ s.environment.pending = 0) ∧
      (u.runState = .running ∧ u.ime = false ∧ u.environment.pending ≠ 0 ∧ AtPc u.environment .inc_A) := by
  exact ⟨by decide, by decide, by decide, by decide, ⟨_, rfl⟩⟩
/-- EnableTakesEffectAfterNextInstruction: NOP with the latch set, DI with the latch set, NOP with it clear. -/
theorem witness_enable : let s := State.at { start with eiPending := true } [0x00]
    let u := State.at { start with eiPending := true } [0xF3]
    let v := State.at start [0x00]
    (∃ d t, exec .nop s.environment.wake = .next d ∧ step s = .next t ∧ d.eiPending = true ∧ t.ime = true) ∧
      (∃ d t, exec .di u.environment.wake = .next d ∧ step u = .next t ∧ d.eiPending = false ∧ t.ime = false) ∧
      (∃ d t, exec .nop v.environment.wake = .next d ∧ step v = .next t ∧ d.eiPending = false ∧ t.ime = false) := by
  exact ⟨⟨_, _, rfl, rfl, rfl, rfl⟩, ⟨_, _, rfl, rfl, rfl, rfl⟩, ⟨_, _, rfl, rfl, rfl, rfl⟩⟩
/-- HaltBugRepeatsNextByte: an instruction of one byte, and one of two bytes, whose operand is its own opcode. -/
theorem witness_halt_bug : let s := State.at { start with iflag := 0x04, ie := 0x04 } [0x76, 0x3C]
    s.environment.pending ≠ 0 ∧ AtPc s.environment .halt ∧ ¬ TransfersControl .inc_A ∧ (encode .inc_A).length = 1 ∧
      ∃ t u, step s = .next t ∧ Executes t.environment ∧ AtPc t.environment .inc_A ∧ step t = .next u ∧
        u.pc = 0x0101 := by
  refine ⟨by decide, ⟨_, rfl⟩, ?_, rfl, _, _, rfl, ⟨rfl, Or.inl rfl, Or.inl rfl⟩, ⟨_, rfl⟩, rfl, rfl⟩
  rintro (⟨_, h⟩ | h | ⟨_, h⟩ | ⟨k, _, h⟩ | ⟨k, _, h⟩ | ⟨_, h⟩ | ⟨k, _, h⟩ | h | ⟨k, h⟩ | h | ⟨y, h⟩)
  case inr.inr.inr.inr.inr.inr.inr.inr.inr.inr => rcases y with _ | _ | _ | _ | _ | _ | _ | y <;> cases h
  all_goals first | cases h | (cases k <;> cases h)
theorem witness_halt_bug_two_bytes : let s := State.at { start with iflag := 0x04, ie := 0x04 } [0x76, 0x3E, 0x14]
    ∃ t u, step s = .next t ∧ AtPc t.environment (.ld_A_n 0x3E) ∧ step t = .next u ∧ u.a = 0x3E ∧ u.pc = 0x0102 := by
  exact ⟨_, _, rfl, ⟨_, rfl⟩, rfl, rfl, rfl⟩
/-- The timer's loops, with fuel to spare and with none. -/
theorem witness_fuel : start.divCounter + 0 ≤ 0 ∧ ({ start with timaCounter := 255 } : State).timaCounter + 6 ≤ 300 := by
  decide
theorem witness_div_bound : ({ start with divCounter := 63 } : State).divCounter < 64 ∧ start.divCounter < 64 := by
  decide
theorem witness_tima_enabled : ({ start with tac := 0x04 } : State).tac.getLsbD 2 = true := by decide
/-- EchoMirrorsWorkRam: both ends of the echo. -/
theorem witness_echo : (0xE000 ≤ (0xE000 : Word).toNat ∧ (0xE000 : Word).toNat ≤ 0xFDFF) ∧
    (0xE000 ≤ (0xFDFF : Word).toNat ∧ (0xFDFF : Word).toNat ≤ 0xFDFF) := by decide
/-- The clauses of the write path at the ends of their ranges: 0x7FFF is dropped and 0x8000 is stored, 0xFF04 is
cleared and 0xFF05 is stored, and 0xFE00, past the echo, names itself. -/
theorem witness_write_path :
    busAfter .default used.memRead 0x7FFF 0x42 0x7FFF = 0x00 ∧ busAfter .default used.memRead 0x8000 0x42 0x8000 = 0x42 ∧
      busAfter .default used.memRead 0xFF04 0x42 0xFF04 = 0x00 ∧
      busAfter .default used.memRead 0xFF05 0x42 0xFF05 = 0x42 ∧
      busAfter .default used.memRead 0xFE00 0x42 0xDE00 = 0x00 ∧
      busAfter .default used.memRead 0xFDFF 0x42 0xDDFF = 0x42 ∧ underEcho 0xFE00 = 0xFE00 := by decide
/-- ResetLeavesRegisterValues: an image that reaches the last byte of the block, and cells of work RAM, of its echo,
where the last one decides, and of an address that the launch's IE takes. -/
theorem witness_reset : let l : Launch :=
      { ioImage := List.replicate 128 0x55, memInit := [(0xC000, 0x12), (0xE000, 0x34), (0xFFFF, 0x77)], ieReset := 0x1F }
    127 < 128 ∧ 127 < l.ioImage.length ∧ lastGiven l.memInit 0xC000 = some 0x34 ∧
      lastGiven l.memInit 0xC001 = none ∧ (State.hostReset start l).ie = 0x1F := by
  refine ⟨by decide, by simp, by decide, by decide, rfl⟩
/-- RegistersStandOnTheBus: the six registers apart, by six values. -/
theorem witness_bus : let s := { start with div := 1, tima := 2, tma := 3, tac := 4, iflag := 5, ie := 6 }
    [0xFF04, 0xFF05, 0xFF06, 0xFF07, 0xFF0F, 0xFFFF].map s.memRead = [1, 2, 3, 4, 5, 6] := by decide
/-- OutsideMovesAreConfined: bits outside the mask are not raised; IF may be written, as a byte of the I/O block; TAC
and an offset past the block may not; an address at each end of the bytes the environment leaves. -/
theorem witness_outside : let s := { start with env := [[.raise 0xFF, .setIo 0x01 0x5A], [.setIo 0x0F 0x04]] }
    s.environment.iflag = 0x1B ∧ s.environment.memRead 0xFF01 = 0x5A ∧ s.environment.env = [[.setIo 0x0F 0x04]] ∧
      s.environment.environment.iflag = 0x04 ∧ (s.envMove (.setIo 0x07 0xFF)).tac = 0x00 ∧
      s.envMove (.setIo 0x80 0xFF) = s ∧ s.environment.memRead 0xFEFF = s.memRead 0xFEFF ∧
      s.environment.memRead 0xFF80 = s.memRead 0xFF80 := by decide
/-- The last clause: patches of a state with memory in canonical form and F as a run leaves it. -/
theorem witness_patch : let t := start.hostMove (.inspectAndPatch [.pc 0xC000, .flagByte 0xFF, .bus 0xE000 0x76])
    Memory.wf start.mem ∧ start.f &&& 0x0F = 0 ∧ t.pc = 0xC000 ∧ t.f = 0xF0 ∧ t.memRead 0xC000 = 0x76 := by decide
/-- LoadedImageIsReadBack, inside and past the image. -/
theorem witness_load : let s := start.loadRom [0x31, 0xFE]
    Memory.wf start.mem ∧ s.memRead 0x0000 = 0x31 ∧ s.memRead 0x0001 = 0xFE ∧ s.memRead 0x0002 = 0x00 := by decide
/-- StepKeepsInvariant: a state with the invariant that has a step. -/
theorem witness_invariant : State.Inv (State.at start [0x3C]) ∧ ∃ t, step (State.at start [0x3C]) = .next t := by
  exact ⟨by constructor <;> decide, _, rfl⟩
/-- OtherInstructionsKeepFlags: NOP writes no flag. -/
theorem witness_keeps_flags : ¬ WritesFlags .nop ∧ ∃ t, exec .nop start = .next t := by
  refine ⟨?_, _, rfl⟩
  rintro (⟨k, x, h⟩ | ⟨x, h⟩ | ⟨x, h⟩ | ⟨p, h⟩ | ⟨k, x, h⟩ | ⟨b, x, h⟩ | ⟨e, h⟩ | ⟨e, h⟩ | h)
  · cases k <;> rcases x with (_ | _ | _ | _ | _ | _ | _) | _ | _ <;> cases h
  · rcases x with (_ | _ | _ | _ | _ | _ | _) | _ <;> cases h
  · rcases x with (_ | _ | _ | _ | _ | _ | _) | _ <;> cases h
  · cases p <;> cases h
  · cases k <;> rcases x with (_ | _ | _ | _ | _ | _ | _) | _ <;> cases h
  · rcases b with _ | _ | _ | _ | _ | _ | _ | b <;> rcases x with (_ | _ | _ | _ | _ | _ | _) | _ <;> cases h
  · cases h
  · cases h
  · revert h; decide
/-- ImeWriters: RETI raises IME, DI clears it. -/
theorem witness_ime : (∃ t, step (State.at start [0xD9]) = .next t ∧ t.ime = true) ∧
    (∃ t, step (State.at { start with ime := true } [0xF3]) = .next t ∧ t.ime = false) := by
  exact ⟨⟨_, rfl, rfl⟩, ⟨_, rfl, rfl⟩⟩
/-- HaltedForGoodAndSpinLast: no source enabled, with a request pending and a move of the environment to come; and only
the timer's, with the timer off. -/
theorem witness_halted_for_good : State.haltedForGood { start with halted := true, iflag := 0x1F, env := [[.raise 1]] } ∧
    State.haltedForGood { start with halted := true, ie := 0x04 } := by
  exact ⟨⟨rfl, rfl, Or.inl (by decide)⟩, ⟨rfl, rfl, Or.inr ⟨by decide, by decide, rfl, rfl⟩⟩⟩
/-- The second clause: `JR -2`, `JP HL` with its own address in HL, and `JP Z` taken to its own address. -/
theorem witness_spin : let s := State.at { start with env := [[.raise 1]] } [0x18, 0xFE]
    let u := State.at { start with h := 0x01, l := 0x00 } [0xE9]
    let v := State.at { start with f := 0x80 } [0xCA, 0x00, 0x01]
    (s.environment.spinning ∧ Executes s.environment) ∧ (u.environment.spinning ∧ Executes u.environment) ∧
      (v.environment.spinning ∧ Executes v.environment) ∧
      ∀ j, j < 3 → s.pc + BitVec.ofNat 16 j ∉ timerBytes := by
  refine ⟨⟨⟨rfl, rfl, rfl, rfl, _, rfl, rfl⟩, rfl, Or.inl rfl, Or.inl rfl⟩,
    ⟨⟨rfl, rfl, rfl, rfl, _, rfl, rfl⟩, rfl, Or.inl rfl, Or.inl rfl⟩,
    ⟨⟨rfl, rfl, rfl, rfl, _, rfl, rfl⟩, rfl, Or.inl rfl, Or.inl rfl⟩, by decide⟩
/-- `JP Z` to its own address, with Z clear. -/
def notTaken : State := State.at { start with f := 0x00 } [0xCA, 0x00, 0x01]
/-- A conditional jump that is not taken is no spin. -/
theorem test_not_taken_is_no_spin : ¬ notTaken.spinning := by
  have k : (match exec notTaken.instrAtPc notTaken with | .next t => t.pc | _ => 0x0000) = 0x0103 := by decide
  rintro ⟨-, -, -, -, t, h, e⟩
  rw [h] at k
  exact (show notTaken.pc ≠ 0x0103 by decide) (e.symm.trans k)
/-- R271: an override cannot make an instruction free. -/
theorem test_cycles_are_positive : let t := after (State.at { start with
    cfg := { Config.default with cycleOverrides := [⟨0x00, true, 0⟩, ⟨0x00, true, 6⟩] } } [0x00]); t.cycles = 1 := by
  decide

end Sys2Proof.Tests
end

section
/-!
PROOFS. Memory and the bus (spec/20_memory.md): addresses of one home are one byte, and an echo address has the home
of the address 0x2000 below it.
-/
open Sys2Proof Sys2Proof.Machine Sys2Proof.Stated

namespace Sys2Proof.Proofs

/-- Addresses of one home read as one byte (R61). -/
theorem memRead_eq_of_homeOf_eq (s : State) {a b : Word} (h : homeOf a = homeOf b) : s.memRead a = s.memRead b := by
  simp only [State.memRead, State.rawRead, h]

/-- A back-door write to either of two addresses of one home is the same write (R62). -/
theorem rawWrite_eq_of_homeOf_eq (s : State) {a b : Word} (h : homeOf a = homeOf b) (v : Byte) :
    s.rawWrite a v = s.rawWrite b v := by
  simp only [State.rawWrite, h]

/-- An echo address names the byte 0x2000 below it (R63). -/
theorem backing_of_echo {a : Word} (hlo : 0xE000 ≤ a.toNat) (hhi : a.toNat ≤ 0xFDFF) : backing a = a - 0x2000 :=
  if_pos ((regionOf_eq_echo a).2 ⟨hlo, hhi⟩)

/-- An echo address has its byte where the address 0x2000 below has it (R63). -/
theorem homeOf_of_echo {a : Word} (hlo : 0xE000 ≤ a.toNat) (hhi : a.toNat ≤ 0xFDFF) :
    homeOf a = homeOf (a - 0x2000) := by
  rw [homeOf_eq_iff, ← backing_of_echo hlo hhi, backing_backing]

/-- Neither guard of the write path (R62) meets an address from 0x8000 up to the I/O block: a store there is a
back-door write. -/
theorem memWrite_eq_rawWrite_of_range (s : State) {a : Word} (hlo : 0x8000 ≤ a.toNat) (hhi : a.toNat < 0xFF00)
    (v : Byte) : s.memWrite a v = s.rawWrite a v := by
  refine State.memWrite_eq_rawWrite s v ?_ ?_
  · rw [Bool.eq_false_iff, Ne, isRom_eq_true]
    omega
  · bv_omega

/-- Settles O50: what `RawWrite` leaves at every address, with the byte an address names put as `underEcho`. -/
theorem noAliasingButTheEcho : Obligations.NoAliasingButTheEcho := by
  intro s a b v hwf
  rw [underEcho_eq, underEcho_eq]
  exact State.rawRead_rawWrite s hwf a b v

/-- Settles O49: both addresses have one home, and neither is in ROM or DIV, so that both stores are back-door
writes. -/
theorem echoMirrorsWorkRam : Obligations.EchoMirrorsWorkRam := by
  intro s a v hlo hhi
  have hhome : homeOf a = homeOf (a - 0x2000) := homeOf_of_echo hlo hhi
  have hsub : (a - 0x2000).toNat = a.toNat - 0x2000 := by bv_omega
  have hraw : s.rawWrite a v = s.rawWrite (a - 0x2000) v := rawWrite_eq_of_homeOf_eq s hhome v
  refine ⟨memRead_eq_of_homeOf_eq s hhome, hraw, ?_⟩
  rw [memWrite_eq_rawWrite_of_range s (by omega) (by omega), hraw,
    memWrite_eq_rawWrite_of_range s (by omega) (by omega)]

end Sys2Proof.Proofs
end

section
/-!
PROOFS. Decoding (spec/30_encoding.md): the decoder uses up the bytes that its first byte calls for, and the undefined
bytes are the rows of `illegalRows`.
-/
open Sys2Proof Sys2Proof.Machine Sys2Proof.Stated

namespace Sys2Proof.Proofs

/-! ### Lengths -/

/-- Decoding anything but the prefix row uses up as many bytes as the first byte calls for (R102). -/
theorem length_of_decode {op : Byte} {tail rest : List Byte} {i : Instr} (h : decode (op :: tail) = .ok (i, rest))
    (hi : i ≠ .cbPrefix) : (op :: tail).length = rest.length + lengthOf op := by
  rcases lengthOf_cases op with k | k | k
  · simp only [decode, k, Except.ok.injEq, Prod.mk.injEq] at h
    simp [k, h.2]
  · cases tail with
    | nil =>
      -- the prefix byte alone decodes to the prefix row, every other byte of length 2 is rejected
      simp only [decode, k] at h
      split at h
      · cases h; exact absurd rfl hi
      · cases h
    | cons b1 tail =>
      simp only [decode, k, Except.ok.injEq, Prod.mk.injEq] at h
      simp [k, h.2]
  · match tail with
    | [] | [_] => simp [decode, k] at h
    | b1 :: b2 :: tail =>
      simp only [decode, k, Except.ok.injEq, Prod.mk.injEq] at h
      simp [k, h.2]

/-- Settles O34: the decoder uses up `lengthOf op` bytes, and `lengthOf` is the list of R102. -/
theorem lengthFromFirstByte : Obligations.LengthFromFirstByte := by
  intro op tail rest i h hwf _
  exact length_of_decode h (of_decide_eq_true hwf)

/-! ### The undefined bytes -/

/-- What a first byte names encodes to bytes that begin with it. -/
theorem head?_encode_decodeOp (op b1 b2 : Byte) : (encode (decodeOp op b1 b2)).head? = some op := by
  by_cases hcb : op = 0xCB
  · subst hcb
    rw [show decodeOp 0xCB b1 b2 = cbInstr b1 from rfl, encode_cbInstr]
    rfl
  · rw [encode_decodeOp op b1 b2 hcb]
    rcases lengthOf_cases op with k | k | k <;> simp [k]

/-- The instructions without behaviour are those that `illegalRows` lists. -/
theorem exists_mem_illegalRows {i : Instr} (h : i.isIllegal = true) : ∃ op, (i, op) ∈ illegalRows := by
  unfold Instr.isIllegal at h
  split at h
  case h_12 => cases h
  all_goals simp [illegalRows]

theorem isIllegal_of_mem_illegalRows : ∀ row ∈ illegalRows, row.1.isIllegal = true := by decide

theorem encode_of_mem_illegalRows : ∀ row ∈ illegalRows, encode row.1 = [row.2] := by decide

/-- A row without behaviour raises the decode error at PC (R280). -/
theorem exec_of_mem_illegalRows (s : State) :
    ∀ row ∈ illegalRows, exec row.1 s = .next (s.raiseUndefinedOpcode row.2) := by
  simp only [illegalRows, List.forall_mem_cons]
  exact ⟨rfl, rfl, rfl, rfl, rfl, rfl, rfl, rfl, rfl, rfl, rfl, nofun⟩

/-- An undefined byte names its row, whatever follows it (R117). -/
theorem decodeOp_of_mem_illegalRows (b1 b2 : Byte) : ∀ row ∈ illegalRows, decodeOp row.2 b1 b2 = row.1 := by
  simp only [illegalRows, List.forall_mem_cons]
  exact ⟨rfl, rfl, rfl, rfl, rfl, rfl, rfl, rfl, rfl, rfl, rfl, nofun⟩

/-- A first byte that names an instruction without behaviour is the byte of that instruction's row: the first byte of
its encoding. -/
theorem decodeOp_mem_illegalRows {op b1 b2 : Byte} (h : (decodeOp op b1 b2).isIllegal = true) :
    (decodeOp op b1 b2, op) ∈ illegalRows := by
  obtain ⟨op', hrow⟩ := exists_mem_illegalRows h
  have hhead := head?_encode_decodeOp op b1 b2
  rw [encode_of_mem_illegalRows _ hrow] at hhead
  obtain rfl : op' = op := Option.some.inj hhead
  exact hrow

/-- Settles O35: the bytes of `illegalRows` are the eleven, each names its row, and the row raises the decode error. -/
theorem elevenUndefinedBytes : Obligations.ElevenUndefinedBytes := by
  intro op b1 b2
  refine ⟨⟨fun h => ?_, fun h => ?_⟩, fun h s => ?_⟩
  · exact List.mem_map_of_mem (f := Prod.snd) (decodeOp_mem_illegalRows h)
  · obtain ⟨row, hrow, rfl⟩ := List.mem_map.1 (show op ∈ illegalRows.map Prod.snd from h)
    rw [decodeOp_of_mem_illegalRows b1 b2 row hrow]
    exact isIllegal_of_mem_illegalRows row hrow
  · exact ⟨_, exec_of_mem_illegalRows s _ (decodeOp_mem_illegalRows h), State.raiseUndefinedOpcode_runState s op⟩

end Sys2Proof.Proofs
end

section
/-!
PROOFS. What an instruction that transfers no control leaves besides its result: one lemma for every such shape, from
the laws of Laws/Shape.lean.
-/
open Sys2Proof Sys2Proof.Machine Sys2Proof.Stated

namespace Sys2Proof.Machine

theorem exec_of_shapeOf {i : Instr} {k : Shape} {s : State} {o : Host.Outcome State Fault Refusal}
    (hs : shapeOf i = k) (hrun : k.run s = o) : exec i s = o := by
  rw [exec_eq_run, hs, hrun]

/-- The shapes that leave `run_state`, IME, the latch and `halted` as they were (R38 to R40, R44). -/
def Shape.quiet : Shape → Bool
  | .undefinedOpcode _ | .stop | .halt | .reti | .di | .ei => false
  | _ => true

theorem Control.leaves_of_quiet {s t : State} {k : Shape} (h : Control s t k) (hq : k.quiet = true) : Leaves s t := by
  cases h with
  | leaves _ h => exact h
  | _ => cases hq

/-- A quiet shape that has used up the halt bug has the frame of an instruction that completes. -/
theorem Shape.ran {k : Shape} {s t : State} {op n : Nat} {taken : Bool} (h : k.run s = .next t)
    (hq : k.quiet = true) (hb : t.haltBug = false) (hc : t.cycles = s.cyclesOf op taken n) : Ran s t op taken n := by
  have hl : Leaves s t := (run_control k s t h).leaves_of_quiet hq
  have hs : Steady s t := run_steady k s t h
  exact .intro hc hb hl.ime hl.latch hl.halted hs.timaCounter hl.runState hs.cfg hs.env

/-- A quiet shape that transfers no control leaves PC past its bytes and has the frame of an instruction that
completes. -/
theorem Shape.ranThrough {k : Shape} {s t : State} {op len n : Nat} (h : k.run s = .next t)
    (hk : k.through = some len) (hq : k.quiet = true) (hc : t.cycles = s.cyclesOf op true n) :
    RanThrough s t op len n := by
  obtain ⟨hpc, hbug⟩ := run_through k s t len hk h
  have hhalt : k ≠ .halt := by rintro rfl; cases hq
  exact ⟨by rw [hpc, pcPast_eq], Shape.ran h hq (hbug hhalt) hc⟩

/-- Writing HL leaves every register but H and L. -/
theorem State.reg8_setHl_of_ne (s : State) (v : Word) {r : Reg8} (hh : r ≠ .h) (hl : r ≠ .l) :
    (s.setHl v).reg8 r = s.reg8 r := by
  cases r with
  | h => exact absurd rfl hh
  | l => exact absurd rfl hl
  | _ => rfl

end Sys2Proof.Machine
end

section
/-!
PROOFS. The 8-bit loads (spec/40_load8.md): a load puts one byte in a register, a store sends one byte through the
write path, and the forms with HL+ and HL- move HL afterwards.
-/
open Sys2Proof Sys2Proof.Machine Sys2Proof.Stated

namespace Sys2Proof.Proofs

/-! ### The encodings and shapes of the register forms -/

theorem encode_ldRR (r r' : Reg8) : encode (ldRR r r') = [xyz 1 (regCode r) (regCode r')] := by
  cases r <;> cases r' <;> rfl

theorem shapeOf_ldRR (r r' : Reg8) : shapeOf (ldRR r r') = .ldReg (xyz 1 (regCode r) (regCode r')).toNat r r' := by
  cases r <;> cases r' <;> rfl

theorem encode_ldRN (r : Reg8) (n : Byte) : encode (ldRN r n) = [xyz 0 (regCode r) 6, n] := by
  cases r <;> rfl

theorem shapeOf_ldRN (r : Reg8) (n : Byte) : shapeOf (ldRN r n) = .ldImm (xyz 0 (regCode r) 6).toNat r n := by
  cases r <;> rfl

theorem encode_ldRM (r : Reg8) : encode (ldRM r) = [xyz 1 (regCode r) 6] := by
  cases r <;> rfl

theorem shapeOf_ldRM (r : Reg8) : shapeOf (ldRM r) = .ldFromMem (xyz 1 (regCode r) 6).toNat r := by
  cases r <;> rfl

theorem encode_ldMR (r : Reg8) : encode (ldMR r) = [xyz 1 6 (regCode r)] := by
  cases r <;> rfl

theorem shapeOf_ldMR (r : Reg8) : shapeOf (ldMR r) = .ldToMem (xyz 1 6 (regCode r)).toNat r := by
  cases r <;> rfl

/-! ### Loads -/

/-- An instruction that loads `v` into `r` changes no other register, no flag, not SP and not the bus. -/
theorem exec_load {i : Instr} {k : Shape} {s : State} {r : Reg8} {v : Byte} {op len n : Nat} (hs : shapeOf i = k)
    (hrun : k.run s = .next (((s.fetched len).setReg8 r v).spend op n)) (hk : k.through = some len)
    (hq : k.quiet = true) :
    ∃ t, exec i s = .next t ∧
      t.reg8 r = v ∧ RegsKept [r] s t ∧ t.f = s.f ∧ t.sp = s.sp ∧ BusKept s t ∧ RanThrough s t op len n := by
  refine ⟨_, exec_of_shapeOf hs hrun, by simp, fun q hmem => ?_, by simp, by simp,
    ⟨fun a => by simp, by simp⟩, Shape.ranThrough hrun hk hq (by simp)⟩
  have hne : q ≠ r := by simpa using hmem
  simp [State.reg8_setReg8, hne]

/-- Settles O1: each form is a load into `r`, of a register, of the immediate and of the byte at HL. -/
theorem loadRegister : Obligations.LoadRegister := by
  intro r s
  refine ⟨fun r' => ⟨encode_ldRR r r', ?_⟩, fun n => ⟨encode_ldRN r n, ?_⟩, encode_ldRM r, ?_⟩
  · exact exec_load (shapeOf_ldRR r r') rfl rfl rfl
  · exact exec_load (shapeOf_ldRN r n) rfl rfl rfl
  · exact exec_load (shapeOf_ldRM r) rfl rfl rfl

/-- Settles O3: each form is a load into A, of the byte at its address. -/
theorem loadAccumulator : Obligations.LoadAccumulator := by
  intro s n nn
  simp only [accLoads, List.forall_mem_cons, low_eq, high_eq, highPage_eq]
  refine ⟨⟨rfl, ?_⟩, ⟨rfl, ?_⟩, ⟨rfl, ?_⟩, ⟨rfl, ?_⟩, ⟨rfl, ?_⟩, nofun⟩
  all_goals exact exec_load (r := .a) rfl rfl rfl rfl

/-! ### Stores -/

/-- An instruction that stores `v` at `addr` changes no register, no flag and not SP. -/
theorem exec_store {i : Instr} {k : Shape} {s : State} {addr : Word} {v : Byte} {op len n : Nat}
    (hwf : Memory.wf s.mem) (hs : shapeOf i = k)
    (hrun : k.run s = .next (((s.fetched len).memWrite addr v).spend op n)) (hk : k.through = some len)
    (hq : k.quiet = true) :
    ∃ t, exec i s = .next t ∧
      StoresByte s t addr v ∧ RegsKept [] s t ∧ t.f = s.f ∧ t.sp = s.sp ∧ RanThrough s t op len n := by
  refine ⟨_, exec_of_shapeOf hs hrun, ?_, fun q _ => by simp, by simp, by simp,
    Shape.ranThrough hrun hk hq (by simp)⟩
  exact .intro (x := s.fetched len) hwf (fun _ => rfl) rfl rfl (fun _ => rfl) rfl rfl

/-- Settles O2: both forms are stores at HL, of a register and of the immediate. -/
theorem storeByteToMemoryAtHL : Obligations.StoreByteToMemoryAtHL := by
  intro s hwf
  refine ⟨fun r => ⟨encode_ldMR r, ?_⟩, fun n => ⟨rfl, ?_⟩⟩
  · exact exec_store hwf (shapeOf_ldMR r) rfl rfl rfl
  · exact exec_store hwf rfl rfl rfl rfl

/-- Settles O4: each form is a store of A at its address. -/
theorem storeAccumulator : Obligations.StoreAccumulator := by
  intro s n nn hwf
  simp only [accStores, List.forall_mem_cons, low_eq, high_eq, highPage_eq]
  refine ⟨⟨rfl, ?_⟩, ⟨rfl, ?_⟩, ⟨rfl, ?_⟩, ⟨rfl, ?_⟩, ⟨rfl, ?_⟩, nofun⟩
  all_goals exact exec_store hwf rfl rfl rfl rfl

/-! ### HL+ and HL- -/

/-- `LD A,(HL+)` and `LD A,(HL-)`: A is loaded from the old HL, and HL moves by `d` (R142, R148). -/
theorem exec_loadAStep {i : Instr} {op : Nat} {d : Word} (s : State) (hs : shapeOf i = .loadAStep op d) :
    ∃ t, exec i s = .next t ∧
      t.a = s.memRead (s.h ++ s.l) ∧ t.h ++ t.l = (s.h ++ s.l) + d ∧
      RegsKept [.a, .h, .l] s t ∧ t.f = s.f ∧ t.sp = s.sp ∧ BusKept s t ∧ RanThrough s t op 1 2 := by
  have hrun : (Shape.loadAStep op d).run s =
      .next ((((s.fetched 1).setReg8 .a (s.memRead s.hl)).setHl (s.hl + d)).spend op 2) := rfl
  refine ⟨_, exec_of_shapeOf hs hrun, rfl, ?_, fun q hq => ?_, by simp, by simp, ⟨fun a => by simp, by simp⟩,
    Shape.ranThrough hrun rfl rfl (by simp)⟩
  · exact wordOf_hi_lo (s.hl + d)
  · simp only [List.mem_cons, List.not_mem_nil, or_false, not_or] at hq
    obtain ⟨ha, hh, hl⟩ := hq
    rw [State.reg8_spend, State.reg8_setHl_of_ne _ _ hh hl, State.reg8_setReg8, if_neg ha, State.reg8_fetched]

/-- `LD (HL+),A` and `LD (HL-),A`: A is stored at the old HL, and HL moves by `d` (R141, R147). -/
theorem exec_storeAStep {i : Instr} {op : Nat} {d : Word} {s : State} (hwf : Memory.wf s.mem)
    (hs : shapeOf i = .storeAStep op d) :
    ∃ t, exec i s = .next t ∧
      StoresByte s t (s.h ++ s.l) s.a ∧ t.h ++ t.l = (s.h ++ s.l) + d ∧
      RegsKept [.h, .l] s t ∧ t.f = s.f ∧ t.sp = s.sp ∧ RanThrough s t op 1 2 := by
  have hrun : (Shape.storeAStep op d).run s =
      .next ((((s.fetched 1).memWrite s.hl s.a).setHl (s.hl + d)).spend op 2) := rfl
  refine ⟨_, exec_of_shapeOf hs hrun, ?_, ?_, fun q hq => ?_, by simp, by simp,
    Shape.ranThrough hrun rfl rfl (by simp)⟩
  · exact .intro (x := s.fetched 1) hwf (fun _ => rfl) rfl rfl (fun _ => rfl) rfl rfl
  · exact wordOf_hi_lo (s.hl + d)
  · simp only [List.mem_cons, List.not_mem_nil, or_false, not_or] at hq
    obtain ⟨hh, hl⟩ := hq
    rw [State.reg8_spend, State.reg8_setHl_of_ne _ _ hh hl, State.reg8_memWrite, State.reg8_fetched]

/-- Settles O5: a load or a store at the old HL, and HL moved by 1 or by -1. -/
theorem accumulatorWithHLStepping : Obligations.AccumulatorWithHLStepping := by
  intro s
  simp only [List.forall_mem_cons]
  refine ⟨⟨rfl, rfl, rfl, rfl⟩, ⟨?_, ?_, nofun⟩, fun hwf => ⟨?_, ?_, nofun⟩⟩
  · exact exec_loadAStep s rfl
  · exact exec_loadAStep s rfl
  · exact exec_storeAStep hwf rfl
  · exact exec_storeAStep hwf rfl

end Sys2Proof.Proofs
end

section
/-!
PROOFS. The 16-bit loads and the stack (spec/41_load16_stack.md): a pair is a word kept as two bytes, so that a load
or a POP puts the two bytes of one word in place, and a store or a PUSH sends them through the write path one by one.
-/
open Sys2Proof Sys2Proof.Machine Sys2Proof.Stated

namespace Sys2Proof.Machine

/-! ### The pairs after an update -/

@[simp] theorem State.reg16_spend (s : State) (op n : Nat) (taken : Bool) (p : Reg16) :
    (s.spend op n taken).reg16 p = s.reg16 p := by
  cases p <;> rfl

@[simp] theorem State.reg8_dropTwo (s : State) (r : Reg8) : s.dropTwo.reg8 r = s.reg8 r := by
  cases r <;> rfl

/-- Writing a pair leaves every register outside it (R22). -/
theorem State.reg8_setReg16_of_notMem (s : State) {p : Reg16} (v : Word) {r : Reg8} (hr : r ∉ pairRegs p) :
    (s.setReg16 p v).reg8 r = s.reg8 r := by
  cases p with
  | bc => cases r with
    | b | c => simp [pairRegs] at hr
    | _ => rfl
  | de => cases r with
    | d | e => simp [pairRegs] at hr
    | _ => rfl
  | hl =>
    obtain ⟨hh, hl⟩ : r ≠ .h ∧ r ≠ .l := by simpa [pairRegs] using hr
    exact State.reg8_setHl_of_ne s v hh hl
  | sp => cases r <;> rfl

/-- Only the selector of SP writes SP (R24). -/
theorem State.sp_setReg16_of_ne (s : State) {p : Reg16} (v : Word) (hp : p ≠ .sp) : (s.setReg16 p v).sp = s.sp := by
  cases p with
  | sp => exact absurd rfl hp
  | _ => rfl

/-- Writing a pair of POP leaves every register outside it (R22). -/
theorem State.reg8_setStackReg_of_notMem (s : State) {p : StackReg} (v : Word) {r : Reg8} (hr : r ∉ stackRegs p) :
    (s.setStackReg p v).reg8 r = s.reg8 r := by
  cases p with
  | bc => exact State.reg8_setReg16_of_notMem (p := .bc) s v hr
  | de => exact State.reg8_setReg16_of_notMem (p := .de) s v hr
  | hl => exact State.reg8_setReg16_of_notMem (p := .hl) s v hr
  | af => cases r with
    | a => simp [stackRegs] at hr
    | _ => rfl

/-- Only AF writes F (R22). -/
theorem State.f_setStackReg_of_ne (s : State) {p : StackReg} (v : Word) (hp : p ≠ .af) :
    (s.setStackReg p v).f = s.f := by
  cases p with
  | af => exact absurd rfl hp
  | _ => rfl

end Sys2Proof.Machine

namespace Sys2Proof.Stated

/-! ### The pairs of the statements are those of the model (R22) -/

theorem pairOf_eq (s : State) (p : Reg16) : pairOf s p = s.reg16 p := by
  cases p <;> rfl

theorem stackHigh_eq (s : State) (p : StackReg) : stackHigh s p = hiByte (s.stackReg p) := by
  cases p <;> exact (hiByte_wordOf ..).symm

theorem stackLow_eq (s : State) (p : StackReg) : stackLow s p = loByte (s.stackReg p) := by
  cases p <;> exact (loByte_wordOf ..).symm

@[simp] theorem stackHigh_spend (s : State) (op n : Nat) (taken : Bool) (p : StackReg) :
    stackHigh (s.spend op n taken) p = stackHigh s p := by
  cases p <;> rfl

@[simp] theorem stackLow_spend (s : State) (op n : Nat) (taken : Bool) (p : StackReg) :
    stackLow (s.spend op n taken) p = stackLow s p := by
  cases p <;> rfl

@[simp] theorem stackHigh_setStackReg (s : State) (p : StackReg) (v : Word) :
    stackHigh (s.setStackReg p v) p = hiByte v := by
  cases p <;> rfl

/-- The low nibble of a byte put in F is discarded (R23, R166). -/
@[simp] theorem stackLow_setStackReg (s : State) (p : StackReg) (v : Word) :
    stackLow (s.setStackReg p v) p = if p = .af then loByte v &&& 0xF0 else loByte v := by
  cases p <;> rfl

end Sys2Proof.Stated

namespace Sys2Proof.Proofs

/-! ### The encodings and shapes of the pair forms -/

theorem encode_ldPairI (p : Reg16) (nn : Word) :
    encode (ldPairI p nn) = [xpqz 0 (pairCode p) 0 1, low nn, high nn] := by
  rw [low_eq, high_eq]
  cases p <;> rfl

theorem shapeOf_ldPairI (p : Reg16) (nn : Word) :
    shapeOf (ldPairI p nn) = .ldPair (xpqz 0 (pairCode p) 0 1).toNat p nn := by
  cases p <;> rfl

theorem encode_pushI (p : StackReg) : encode (pushI p) = [xpqz 3 (stackCode p) 0 5] := by
  cases p <;> rfl

theorem shapeOf_pushI (p : StackReg) : shapeOf (pushI p) = .pushPair (xpqz 3 (stackCode p) 0 5).toNat p := by
  cases p <;> rfl

theorem encode_popI (p : StackReg) : encode (popI p) = [xpqz 3 (stackCode p) 0 1] := by
  cases p <;> rfl

theorem shapeOf_popI (p : StackReg) : shapeOf (popI p) = .popPair (xpqz 3 (stackCode p) 0 1).toNat p := by
  cases p <;> rfl

/-! ### Loads of 16 bits -/

/-- `LD rr,nn` (R160). -/
theorem exec_ldPairI (p : Reg16) (nn : Word) (s : State) :
    ∃ t, exec (ldPairI p nn) s = .next t ∧
      pairOf t p = nn ∧ RegsKept (pairRegs p) s t ∧ (p = .sp ∨ t.sp = s.sp) ∧ t.f = s.f ∧ BusKept s t ∧
      RanThrough s t (xpqz 0 (pairCode p) 0 1).toNat 3 3 := by
  have hrun (op : Nat) : (Shape.ldPair op p nn).run s = .next (((s.fetched 3).setReg16 p nn).spend op 3) := rfl
  refine ⟨_, exec_of_shapeOf (shapeOf_ldPairI p nn) (hrun _), by simp [pairOf_eq], fun r hr => ?_, ?_, by simp,
    ⟨fun a => by simp, by simp⟩, Shape.ranThrough (hrun _) rfl rfl (by simp)⟩
  · rw [State.reg8_spend, State.reg8_setReg16_of_notMem _ _ hr, State.reg8_fetched]
  · rw [or_iff_not_imp_left]
    intro hp
    rw [State.spend_sp, State.sp_setReg16_of_ne _ _ hp, State.fetched_sp]

/-- `LD SP,HL` (R162). -/
theorem exec_ld_SP_HL (s : State) :
    ∃ t, exec .ld_SP_HL s = .next t ∧
      t.sp = s.h ++ s.l ∧ RegsKept [] s t ∧ t.f = s.f ∧ BusKept s t ∧ RanThrough s t 0xF9 1 2 := by
  have hrun : Shape.ldSpHl.run s = .next (State.spend { s.fetched 1 with sp := s.hl } 0xF9 2) := rfl
  exact ⟨_, exec_of_shapeOf rfl hrun, rfl, .intro rfl rfl rfl rfl rfl rfl rfl _, rfl,
    .intro rfl rfl rfl rfl rfl rfl rfl rfl, Shape.ranThrough hrun rfl rfl rfl⟩

/-- Settles O6: the pair reads back as the immediate, and SP as the old HL. -/
theorem loadPair : Obligations.LoadPair := by
  intro s
  exact ⟨fun p nn => ⟨encode_ldPairI p nn, exec_ldPairI p nn s⟩, rfl, exec_ld_SP_HL s⟩

/-! ### Stores of 16 bits -/

/-- Settles O7: a store of the word SP, which the write path takes as its two bytes. -/
theorem storeStackPointer : Obligations.StoreStackPointer := by
  intro nn s hwf
  have hrun : (Shape.ldMnnSp nn).run s = .next (((s.fetched 3).memWrite16 nn s.sp).spend 0x08 5) := rfl
  obtain ⟨hread, hdiv, -⟩ := memRead_memWrite16 (s.fetched 3) hwf nn s.sp
  rw [low_eq, high_eq, low_eq, high_eq]
  refine ⟨rfl, _, exec_of_shapeOf rfl hrun,
    ⟨fun a => (State.memRead_spend ..).trans (congrFun hread a), (State.spend_divCounter ..).trans hdiv⟩,
    fun r _ => ?_, ?_, ?_, Shape.ranThrough hrun rfl rfl ?_⟩
  all_goals simp [State.memWrite16]

/-- Settles O9: a push of the word the pair is. -/
theorem pushPair : Obligations.PushPair := by
  intro p s hwf
  have hrun (op : Nat) :
      (Shape.pushPair op p).run s = .next (((s.fetched 1).push16 (s.stackReg p)).spend op 4) := rfl
  refine ⟨encode_pushI p, _, exec_of_shapeOf (shapeOf_pushI p) (hrun _), ?_, ?_, by simp,
    Shape.ranThrough (hrun _) rfl rfl (by simp)⟩
  · exact .intro (x := s.fetched 1) hwf (stackHigh_eq s p) (stackLow_eq s p) (State.memRead_spend _ _ _ _)
      (State.spend_divCounter ..) (State.spend_sp ..) rfl (fun _ => rfl) rfl rfl rfl
  · apply RegsKept.intro <;> simp

/-- Settles O10: the two bytes of the popped word are those at SP + 1 and SP. -/
theorem popPair : Obligations.PopPair := by
  intro p s
  have hrun (op : Nat) :
      (Shape.popPair op p).run s = .next (((s.fetched 1).dropTwo.setStackReg p s.popped).spend op 3) := rfl
  refine ⟨encode_popI p, _, exec_of_shapeOf (shapeOf_popI p) (hrun _), ⟨by simp, fun a => by simp, by simp⟩,
    by simp [State.popped], by simp [State.popped], fun r hr => ?_, ?_, Shape.ranThrough (hrun _) rfl rfl (by simp)⟩
  · rw [State.reg8_spend, State.reg8_setStackReg_of_notMem _ _ hr, State.reg8_dropTwo, State.reg8_fetched]
  · rw [or_iff_not_imp_left]
    intro hp
    rw [State.spend_f, State.f_setStackReg_of_ne _ _ hp, State.dropTwo_f, State.fetched_f]

end Sys2Proof.Proofs
end

section
/-!
PROOFS. 8-bit arithmetic and logic (spec/42_alu8.md): the results and flags in the integers of the rules, and the two
frames of these instructions, a byte put in A with the flags and a byte written back to its operand with the flags.
-/
open Sys2Proof Sys2Proof.Machine Sys2Proof.Stated

namespace Sys2Proof.Machine

/-! ### Results and flags in integers -/

/-- A sum of bytes is reduced to 0 exactly when the integer is 0 modulo 256 (R190). -/
theorem ofNat8_mod_eq_zero_iff (n : Nat) : BitVec.ofNat 8 (n % 256) = 0 ↔ n % 256 = 0 := by
  rw [← BitVec.toNat_inj, BitVec.toNat_ofNat, Nat.mod_mod]
  rfl

/-- `(a + x + c) mod 256` and its flags (R170, R171). -/
theorem addResult_eq (a x : Byte) (c : Bool) :
    addResult a x c = (BitVec.ofNat 8 ((a.toNat + x.toNat + carryIn c) % 256),
      ⟨decide ((a.toNat + x.toNat + carryIn c) % 256 = 0), false,
        decide (a.toNat % 16 + x.toNat % 16 + carryIn c > 0xF), decide (a.toNat + x.toNat + carryIn c > 0xFF)⟩) := by
  have hr : BitVec.ofNat 8 (a.toNat + x.toNat + carryIn c) =
      BitVec.ofNat 8 ((a.toNat + x.toNat + carryIn c) % 256) :=
    BitVec.eq_of_toNat_eq (by simp)
  simp only [addResult, hr, ofNat8_mod_eq_zero_iff, halfAdd8_eq, carryAdd8]

/-- `(a - x - c) mod 256` and its flags (R172, R173, R177); 512 keeps the natural subtraction from going below 0. -/
theorem subResult_eq (a x : Byte) (c : Bool) :
    subResult a x c = (BitVec.ofNat 8 ((a.toNat + 512 - x.toNat - carryIn c) % 256),
      ⟨decide ((a.toNat + 512 - x.toNat - carryIn c) % 256 = 0), true,
        decide (x.toNat % 16 + carryIn c > a.toNat % 16), decide (x.toNat + carryIn c > a.toNat)⟩) := by
  have hc : carryIn c ≤ 1 := by cases c <;> decide
  have hr : BitVec.ofInt 8 ((a.toNat : Int) - x.toNat - carryIn c) =
      BitVec.ofNat 8 ((a.toNat + 512 - x.toNat - carryIn c) % 256) := by
    apply BitVec.eq_of_toNat_eq
    rw [BitVec.toNat_ofInt, BitVec.toNat_ofNat]
    omega
  simp only [subResult, hr, ofNat8_mod_eq_zero_iff, halfSub8_eq, borrowSub8]

/-- `(v + 1) mod 256` and its flags (R180, R181). -/
theorem incResult_eq (v : Byte) (fl : Flags) :
    incResult v fl = (BitVec.ofNat 8 (v.toNat + 1),
      ⟨decide (v.toNat = 0xFF), false, decide (v.toNat % 16 = 0xF), fl.c⟩) := by
  have hr : v + 1 = BitVec.ofNat 8 (v.toNat + 1) := by bv_omega
  have hz : v + 1 = 0 ↔ v.toNat = 0xFF := by bv_omega
  have hh : v &&& 0xF = 0xF ↔ v.toNat % 16 = 0xF := by rw [← BitVec.toNat_inj, and_low_nibble]; rfl
  simp only [incResult, hz, hh, ← hr]

/-- `(v - 1) mod 256` and its flags (R182, R183). -/
theorem decResult_eq (v : Byte) (fl : Flags) :
    decResult v fl = (BitVec.ofNat 8 (v.toNat + 255),
      ⟨decide (v.toNat = 1), true, decide (v.toNat % 16 = 0), fl.c⟩) := by
  have hr : v - 1 = BitVec.ofNat 8 (v.toNat + 255) := by bv_omega
  have hz : v - 1 = 0 ↔ v.toNat = 1 := by bv_omega
  have hh : v &&& 0xF = 0 ↔ v.toNat % 16 = 0 := by rw [← BitVec.toNat_inj, and_low_nibble]; rfl
  simp only [decResult, hz, hh, ← hr]

end Sys2Proof.Machine

namespace Sys2Proof.Stated

/-- The accumulator operations of the statements are those of the model (R170 to R177). -/
theorem aluValue_eq (k : AluOp) (a x : Byte) (c : Bool) :
    aluValue k a x c = ((k.apply a x c).1, (k.apply a x c).2.z, (k.apply a x c).2.n, (k.apply a x c).2.h,
      (k.apply a x c).2.c) := by
  -- SUB and CP: a difference of two bytes is 0 modulo 256 exactly when they are equal
  have hmod : (a.toNat + 512 - x.toNat) % 256 = (a.toNat + 256 - x.toNat) % 256 := by omega
  have hzero : (a.toNat + 256 - x.toNat) % 256 = 0 ↔ a.toNat = x.toNat := by omega
  cases k with
  | add | adc => rw [AluOp.apply, addResult_eq]; rfl
  | sub | cp => simp [aluValue, AluOp.apply, subResult_eq, carryIn, hmod, hzero]
  | sbc => rw [AluOp.apply, subResult_eq]; rfl
  | and | xor | or => rfl

/-- A register that is as it was need not be excepted. -/
theorem RegsKept.of_singleton {s t : State} {r : Reg8} (h : RegsKept [r] s t) (hr : t.reg8 r = s.reg8 r) :
    RegsKept [] s t := by
  intro q _
  by_cases hq : q = r
  · rw [hq, hr]
  · exact h q (by simpa using hq)

end Sys2Proof.Stated

namespace Sys2Proof.Proofs

/-! ### A result in A -/

/-- An instruction that puts `v` in A and `fl` in the flags changes no other register, not SP and not the bus. -/
theorem exec_writeA {i : Instr} {k : Shape} {s : State} {v : Byte} {fl : Flags} {op len n : Nat} (hs : shapeOf i = k)
    (hrun : k.run s = .next ((State.setFlags { s.fetched len with a := v } fl).spend op n))
    (hk : k.through = some len) (hq : k.quiet = true) :
    ∃ t, exec i s = .next t ∧
      (t.a = v ∧ FlagsAre s t fl.z fl.n fl.h fl.c) ∧ RegsKept [.a] s t ∧ t.sp = s.sp ∧ BusKept s t ∧
      RanThrough s t op len n := by
  refine ⟨_, exec_of_shapeOf hs hrun, ⟨rfl, .intro rfl rfl rfl rfl rfl⟩, fun q hmem => ?_, rfl,
    .intro rfl rfl rfl rfl rfl rfl rfl rfl, Shape.ranThrough hrun hk hq rfl⟩
  cases q with
  | a => simp at hmem
  | _ => rfl

theorem encode_aluI (k : AluOp) (x : Source) : encode (aluI k x) = aluBytes k x := by
  cases x with
  | reg r => cases k <;> cases r <;> rfl
  | memHL => cases k <;> rfl
  | imm n => cases k <;> rfl

theorem shapeOf_aluI (k : AluOp) (x : Source) : shapeOf (aluI k x) = .alu ((aluBytes k x).headD 0).toNat k x := by
  cases x with
  | reg r => cases k <;> cases r <;> rfl
  | memHL => cases k <;> rfl
  | imm n => cases k <;> rfl

theorem length_aluBytes (k : AluOp) (x : Source) : (aluBytes k x).length = x.length := by
  cases x <;> rfl

theorem aluCycles_eq (x : Source) : aluCycles x = x.cost := by
  cases x <;> rfl

/-- Every accumulator operation, in every operand form (R170 to R178). -/
theorem aluRuns (k : AluOp) : AluRuns k := by
  intro x s
  rw [aluValue_eq, source_eq, length_aluBytes, aluCycles_eq]
  exact ⟨encode_aluI k x, exec_writeA (shapeOf_aluI k x) rfl rfl rfl⟩

/-- Settles O12: the six are among the accumulator operations. -/
theorem accumulatorOperations : Obligations.AccumulatorOperations :=
  ⟨aluRuns .add, aluRuns .sub, aluRuns .and, aluRuns .xor, aluRuns .or, aluRuns .cp⟩

/-- An instruction that puts `fl` in the flags and leaves A changes no register. -/
theorem exec_writeFlags {i : Instr} {k : Shape} {s : State} {fl : Flags} {op : Nat} (hs : shapeOf i = k)
    (hrun : k.run s = .next ((State.setFlags { s.fetched 1 with a := s.a } fl).spend op 1))
    (hk : k.through = some 1) (hq : k.quiet = true) :
    ∃ t, exec i s = .next t ∧
      FlagsAre s t fl.z fl.n fl.h fl.c ∧ RegsKept [] s t ∧ t.sp = s.sp ∧ BusKept s t ∧ RanThrough s t op 1 1 := by
  obtain ⟨t, ht, ⟨ha, hflags⟩, hregs, hrest⟩ := exec_writeA hs hrun hk hq
  exact ⟨t, ht, hflags, hregs.of_singleton ha, hrest⟩

/-- Settles O16: CPL writes A and the flags, SCF and CCF the flags alone, and the Z written is the old one. -/
theorem complementAndCarryFlag : Obligations.ComplementAndCarryFlag := by
  intro s
  refine ⟨⟨rfl, rfl, rfl⟩, ?_, ?_, ?_⟩
  · obtain ⟨t, ht, ⟨ha, hflags⟩, hrest⟩ := exec_writeA (i := .cpl) (s := s) rfl rfl rfl rfl
    exact ⟨t, ht, ha, hflags, hrest⟩
  · exact exec_writeFlags (i := .scf) rfl rfl rfl rfl
  · exact exec_writeFlags (i := .ccf) rfl rfl rfl rfl

/-! ### A result written back to its operand -/

/-- An instruction that writes the byte of `r` back to its operand and puts the flags of `r` in F changes no other
register, not SP and no other byte. -/
theorem exec_writeBack {i : Instr} {k : Shape} {s : State} {x : Place} {r : Byte × Flags} {op len n : Nat}
    (hwf : Memory.wf s.mem) (hs : shapeOf i = k)
    (hrun : k.run s = .next ((((s.fetched len).setFlags r.2).writePlace x r.1).spend op n))
    (hk : k.through = some len) (hq : k.quiet = true) :
    ∃ t, exec i s = .next t ∧
      WritesOperand s t x r.1 ∧ FlagsAre s t r.2.z r.2.n r.2.h r.2.c ∧ t.sp = s.sp ∧ RanThrough s t op len n := by
  refine ⟨_, exec_of_shapeOf hs hrun, ?_, .intro (by simp) rfl rfl rfl rfl, by simp,
    Shape.ranThrough hrun hk hq (by simp)⟩
  exact .intro (x := (s.fetched len).setFlags r.2) hwf (State.reg8_spend _ _ _ _) (fun _ => rfl) rfl rfl (fun _ => rfl)
    rfl rfl (fun _ => by simp)

theorem encode_incI (x : Place) : encode (incI x) = [xyz 0 (placeCode x) 4] := by
  cases x with
  | reg r => cases r <;> rfl
  | memHL => rfl

theorem shapeOf_incI (x : Place) : shapeOf (incI x) = .incPlace (xyz 0 (placeCode x) 4).toNat x := by
  cases x with
  | reg r => cases r <;> rfl
  | memHL => rfl

theorem encode_decI (x : Place) : encode (decI x) = [xyz 0 (placeCode x) 5] := by
  cases x with
  | reg r => cases r <;> rfl
  | memHL => rfl

theorem shapeOf_decI (x : Place) : shapeOf (decI x) = .decPlace (xyz 0 (placeCode x) 5).toNat x := by
  cases x with
  | reg r => cases r <;> rfl
  | memHL => rfl

/-- Settles O14: both write `incResult` or `decResult` of the operand back, with its flags. -/
theorem incrementAndDecrementByte : Obligations.IncrementAndDecrementByte := by
  intro x s hwf
  have hinc := exec_writeBack (r := incResult (s.readPlace x) s.flags) hwf (shapeOf_incI x) rfl rfl rfl
  have hdec := exec_writeBack (r := decResult (s.readPlace x) s.flags) hwf (shapeOf_decI x) rfl rfl rfl
  rw [incResult_eq] at hinc
  rw [decResult_eq] at hdec
  rw [operand_eq]
  exact ⟨⟨encode_incI x, hinc⟩, encode_decI x, hdec⟩

end Sys2Proof.Proofs
end

section
/-!
PROOFS. 16-bit arithmetic (spec/43_alu16.md): the sum and its flags in the integers of the rules, and the two frames of
these instructions, a word put in HL with the flags and a word put in a pair without them.
-/
open Sys2Proof Sys2Proof.Machine Sys2Proof.Stated

namespace Sys2Proof.Machine

/-- `(x + y) mod 65536` and its flags (R200). -/
theorem addWordResult_eq (x y : Word) (fl : Flags) :
    addWordResult x y fl = (BitVec.ofNat 16 (x.toNat + y.toNat),
      ⟨fl.z, false, decide (x.toNat % 0x1000 + y.toNat % 0x1000 > 0xFFF), decide (x.toNat + y.toNat > 0xFFFF)⟩) := by
  have hr : x + y = BitVec.ofNat 16 (x.toNat + y.toNat) := by bv_omega
  simp only [addWordResult, hr, halfAdd16_eq, carryAdd16]

end Sys2Proof.Machine

namespace Sys2Proof.Proofs

/-! ### A word in HL with the flags -/

/-- An instruction that puts the word of `r` in HL and the flags of `r` in F changes no other register, not SP and not
the bus. -/
theorem exec_writeHl {i : Instr} {k : Shape} {s : State} {r : Word × Flags} {op len n : Nat} (hs : shapeOf i = k)
    (hrun : k.run s = .next ((((s.fetched len).setHl r.1).setFlags r.2).spend op n)) (hk : k.through = some len)
    (hq : k.quiet = true) :
    ∃ t, exec i s = .next t ∧
      t.h ++ t.l = r.1 ∧ FlagsAre s t r.2.z r.2.n r.2.h r.2.c ∧ RegsKept [.h, .l] s t ∧ t.sp = s.sp ∧ BusKept s t ∧
      RanThrough s t op len n := by
  refine ⟨_, exec_of_shapeOf hs hrun, wordOf_hi_lo r.1, .intro rfl rfl rfl rfl rfl, fun q hmem => ?_, rfl,
    .intro rfl rfl rfl rfl rfl rfl rfl rfl, Shape.ranThrough hrun hk hq rfl⟩
  obtain ⟨hh, hl⟩ : q ≠ .h ∧ q ≠ .l := by simpa using hmem
  rw [State.reg8_spend, State.reg8_setFlags, State.reg8_setHl_of_ne _ _ hh hl, State.reg8_fetched]

theorem encode_addHlI (p : Reg16) : encode (addHlI p) = [xpqz 0 (pairCode p) 1 1] := by
  cases p <;> rfl

theorem shapeOf_addHlI (p : Reg16) : shapeOf (addHlI p) = .addHl (xpqz 0 (pairCode p) 1 1).toNat p := by
  cases p <;> rfl

/-! ### A word in a pair without the flags -/

/-- An instruction that puts `v` in a pair or SP changes no other register, no flag and not the bus. -/
theorem exec_writePair {i : Instr} {k : Shape} {s : State} {p : Reg16} {v : Word} {op len n : Nat} (hs : shapeOf i = k)
    (hrun : k.run s = .next (((s.fetched len).setReg16 p v).spend op n)) (hk : k.through = some len)
    (hq : k.quiet = true) :
    ∃ t, exec i s = .next t ∧
      pairOf t p = v ∧ RegsKept (pairRegs p) s t ∧ (p = .sp ∨ t.sp = s.sp) ∧ t.f = s.f ∧ BusKept s t ∧
      RanThrough s t op len n := by
  refine ⟨_, exec_of_shapeOf hs hrun, by simp [pairOf_eq], fun r hr => ?_, ?_, by simp, ⟨fun a => by simp, by simp⟩,
    Shape.ranThrough hrun hk hq (by simp)⟩
  · rw [State.reg8_spend, State.reg8_setReg16_of_notMem _ _ hr, State.reg8_fetched]
  · rw [or_iff_not_imp_left]
    intro hp
    rw [State.spend_sp, State.sp_setReg16_of_ne _ _ hp, State.fetched_sp]

theorem encode_incPairI (p : Reg16) : encode (incPairI p) = [xpqz 0 (pairCode p) 0 3] := by
  cases p <;> rfl

theorem shapeOf_incPairI (p : Reg16) : shapeOf (incPairI p) = .stepPair (xpqz 0 (pairCode p) 0 3).toNat p 1 := by
  cases p <;> rfl

theorem encode_decPairI (p : Reg16) : encode (decPairI p) = [xpqz 0 (pairCode p) 1 3] := by
  cases p <;> rfl

theorem shapeOf_decPairI (p : Reg16) : shapeOf (decPairI p) = .stepPair (xpqz 0 (pairCode p) 1 3).toNat p (-1) := by
  cases p <;> rfl

/-- Settles O17: ADD puts `addWordResult` of the old HL and the pair in HL, INC and DEC the pair moved by 1 or -1 in
the pair. -/
theorem pairArithmetic : Obligations.PairArithmetic := by
  intro p s
  have hadd := exec_writeHl (r := addWordResult s.hl (s.reg16 p) s.flags) (shapeOf_addHlI p) rfl rfl rfl
  rw [addWordResult_eq] at hadd
  have hinc : BitVec.ofNat 16 ((s.reg16 p).toNat + 1) = s.reg16 p + 1 := by bv_omega
  have hdec : BitVec.ofNat 16 ((s.reg16 p).toNat + 65535) = s.reg16 p + -1 := by bv_omega
  rw [pairOf_eq, hinc, hdec]
  exact ⟨⟨encode_addHlI p, encode_incPairI p, encode_decPairI p⟩, hadd,
    exec_writePair (shapeOf_incPairI p) rfl rfl rfl, exec_writePair (shapeOf_decPairI p) rfl rfl rfl⟩

end Sys2Proof.Proofs
end

section
/-!
PROOFS. Rotates, shifts and bits (spec/44_rotate_shift_bit.md): the rotated byte in the integers of the rules, the
changed byte bit by bit, and the frame of the instructions that write a byte back and leave the flags.
-/
open Sys2Proof Sys2Proof.Machine Sys2Proof.Stated

namespace Sys2Proof.Machine

/-! ### The parts of a rotate in integers -/

/-- A bit as a number is 1 exactly when it is set. -/
@[simp] theorem decide_carryIn_eq_one (c : Bool) : decide (carryIn c = 1) = c := by
  cases c <;> rfl

/-- Bit 7, the bit that a shift to the left drops. -/
theorem toNat_div_128 (v : Byte) : v.toNat / 128 = carryIn (v.getLsbD 7) := by
  revert v; decide

/-- Bit 0, the bit that a shift to the right drops. -/
theorem toNat_mod_two (v : Byte) : v.toNat % 2 = carryIn (v.getLsbD 0) := by
  revert v; decide

/-- A shift to the left, as a product. -/
theorem shiftLeft_one_eq (v : Byte) : v <<< 1 = BitVec.ofNat 8 (v.toNat * 2 % 256) := by
  revert v; decide

/-- A shift to the left with `c` put in bit 0, as a product and a sum. -/
theorem shiftLeft_one_or_eq (v : Byte) (c : Bool) :
    v <<< 1 ||| (if c then 0x01 else 0) = BitVec.ofNat 8 (v.toNat * 2 % 256 + carryIn c) := by
  revert v c; decide

/-- A shift to the right, as a quotient. -/
theorem shiftRight_one_eq (v : Byte) : v >>> 1 = BitVec.ofNat 8 (v.toNat / 2) := by
  revert v; decide

/-- A shift to the right with `c` put in bit 7, as a quotient and a sum. -/
theorem shiftRight_one_or_eq (v : Byte) (c : Bool) :
    v >>> 1 ||| (if c then 0x80 else 0) = BitVec.ofNat 8 (v.toNat / 2 + carryIn c * 128) := by
  revert v c; decide

/-- Bit 7 alone, the bit that SRA keeps. -/
theorem and_bit_seven (v : Byte) : v &&& 0x80 = if v.getLsbD 7 then 0x80 else 0 := by
  revert v; decide

/-- The nibbles exchanged, as quotient and remainder. -/
theorem swapNibbles_eq (v : Byte) :
    ((v &&& 0x0F) <<< 4) ||| (v >>> 4) = BitVec.ofNat 8 (v.toNat % 16 * 16 + v.toNat / 16) := by
  revert v; decide

/-! ### RES and SET bit by bit -/

/-- The mask of RES and SET has bit `b` alone. -/
theorem getLsbD_one_shiftLeft {b : Nat} (hb : b < 8) (j : Nat) : ((1 : Byte) <<< b).getLsbD j = decide (j = b) := by
  rw [show (1 : Byte) <<< b = BitVec.twoPow 8 b from rfl, BitVec.getLsbD_twoPow]
  simp [hb, eq_comm]

/-- RES clears bit `b` and leaves the others (R226). -/
theorem getLsbD_resetBit {b : Nat} (hb : b < 8) (j : Nat) (v : Byte) :
    (resetBit b v).getLsbD j = (v.getLsbD j && !decide (j = b)) := by
  rw [resetBit, BitVec.getLsbD_and, BitVec.getLsbD_not, getLsbD_one_shiftLeft hb]
  by_cases hj : j < 8
  · rw [decide_eq_true hj, Bool.true_and]
  · -- a byte has no bit at `j`
    rw [BitVec.getLsbD_of_ge v j (Nat.not_lt.1 hj), Bool.false_and, Bool.false_and]

/-- SET sets bit `b` and leaves the others (R227). -/
theorem getLsbD_setBit {b : Nat} (hb : b < 8) (j : Nat) (v : Byte) :
    (setBit b v).getLsbD j = (v.getLsbD j || decide (j = b)) := by
  rw [setBit, BitVec.getLsbD_or, getLsbD_one_shiftLeft hb]

end Sys2Proof.Machine

namespace Sys2Proof.Stated

/-- The rotates and shifts of the statements are those of the model (R215 to R222). -/
theorem rotValue_eq (k : RotOp) (v : Byte) (c : Bool) : rotValue k v c = k.apply v c := by
  have hcarry : (if c then 1 else 0) = carryIn c := rfl
  cases k with
  | rlc | rl => simp only [rotValue, RotOp.apply, hcarry, toNat_div_128, decide_carryIn_eq_one, shiftLeft_one_or_eq]
  | sla => simp only [rotValue, RotOp.apply, toNat_div_128, decide_carryIn_eq_one, shiftLeft_one_eq]
  | rrc | rr | sra =>
    simp only [rotValue, RotOp.apply, hcarry, toNat_div_128, toNat_mod_two, decide_carryIn_eq_one, and_bit_seven,
      shiftRight_one_or_eq]
  | srl => simp only [rotValue, RotOp.apply, toNat_mod_two, decide_carryIn_eq_one, shiftRight_one_eq]
  | swap => rw [RotOp.apply, swapNibbles_eq]; rfl

theorem cbCycles_write (x : Place) : cbCycles x 4 = x.costWrite := by
  cases x <;> rfl

theorem cbCycles_read (x : Place) : cbCycles x 3 = x.costRead := by
  cases x <;> rfl

end Sys2Proof.Stated

namespace Sys2Proof.Proofs

/-! ### Rotates and shifts -/

/-- A rotate of A: the byte and the carry are those of the CB form, Z is 0 (R210 to R213). -/
theorem exec_rotateAcc {i : Instr} {op : Nat} {k : RotOp} (s : State) (hs : shapeOf i = .rotateAcc op k) :
    ∃ t, exec i s = .next t ∧
      (let v := rotValue k s.a (s.f.getLsbD 4)
       t.a = v.1 ∧ FlagsAre s t false false false v.2) ∧
      RegsKept [.a] s t ∧ t.sp = s.sp ∧ BusKept s t ∧ RanThrough s t op 1 1 := by
  rw [rotValue_eq]
  exact exec_writeA hs rfl rfl rfl

/-- Settles O18: each form is a rotate of A by its operation. -/
theorem rotateAccumulator : Obligations.RotateAccumulator := by
  intro s
  simp only [List.forall_mem_cons]
  refine ⟨⟨rfl, ?_⟩, ⟨rfl, ?_⟩, ⟨rfl, ?_⟩, ⟨rfl, ?_⟩, List.forall_mem_nil _⟩
  all_goals exact exec_rotateAcc s rfl

theorem encode_rotI (k : RotOp) (x : Place) : encode (rotI k x) = [0xCB, xyz 0 (rotCode k) (placeCode x)] := by
  cases x with
  | reg r => cases k <;> cases r <;> rfl
  | memHL => cases k <;> rfl

theorem shapeOf_rotI (k : RotOp) (x : Place) :
    shapeOf (rotI k x) = .rotatePlace (0xCB00 + (xyz 0 (rotCode k) (placeCode x)).toNat) k x := by
  cases x with
  | reg r => cases k <;> cases r <;> rfl
  | memHL => cases k <;> rfl

/-- Settles O19: `rotResult` of the operand is written back, with its flags. -/
theorem rotateAndShift : Obligations.RotateAndShift := by
  intro k x s hwf
  rw [rotValue_eq, operand_eq, cbCycles_write]
  obtain ⟨t, ht, hwrites, hflags, hrest⟩ :=
    exec_writeBack (r := rotResult k (s.readPlace x) s.flags) hwf (shapeOf_rotI k x) rfl rfl rfl
  exact ⟨encode_rotI k x, t, ht, ⟨hwrites, hflags⟩, hrest⟩

/-! ### BIT -/

theorem encode_bitI {b : Nat} (hb : b < 8) (x : Place) :
    encode (bitI b x) = [0xCB, xyz 1 (BitVec.ofNat 3 b) (placeCode x)] := by
  cases x with
  | reg r => interval_cases b <;> cases r <;> rfl
  | memHL => interval_cases b <;> rfl

theorem shapeOf_bitI {b : Nat} (hb : b < 8) (x : Place) :
    shapeOf (bitI b x) = .testBit (0xCB00 + (xyz 1 (BitVec.ofNat 3 b) (placeCode x)).toNat) b x := by
  cases x with
  | reg r => interval_cases b <;> cases r <;> rfl
  | memHL => interval_cases b <;> rfl

/-- Settles O20: `bitFlags` of the operand goes to the flags, and A, like every other register, keeps its byte. -/
theorem testBit : Obligations.TestBit := by
  intro b x s hb
  rw [operand_eq, cbCycles_read]
  obtain ⟨t, ht, ⟨ha, hflags⟩, hregs, hrest⟩ := exec_writeA (v := s.a) (s := s) (shapeOf_bitI hb x) rfl rfl rfl
  exact ⟨encode_bitI hb x, t, ht, hflags, hregs.of_singleton ha, hrest⟩

/-! ### RES and SET -/

/-- An instruction that writes `v` back to its operand changes no other register, no flag, not SP and no other byte. -/
theorem exec_writePlace {i : Instr} {k : Shape} {s : State} {x : Place} {v : Byte} {op len n : Nat}
    (hwf : Memory.wf s.mem) (hs : shapeOf i = k)
    (hrun : k.run s = .next (((s.fetched len).writePlace x v).spend op n)) (hk : k.through = some len)
    (hq : k.quiet = true) :
    ∃ t, exec i s = .next t ∧ WritesOperand s t x v ∧ t.f = s.f ∧ t.sp = s.sp ∧ RanThrough s t op len n := by
  refine ⟨_, exec_of_shapeOf hs hrun, ?_, by simp, by simp, Shape.ranThrough hrun hk hq (by simp)⟩
  exact .intro (x := s.fetched len) hwf (State.reg8_spend _ _ _ _) (fun _ => rfl) rfl rfl (fun _ => rfl) rfl rfl
    (State.reg8_fetched _ _)

/-- A change that makes bit `b` of the operand `bit` and leaves its other bits is written back, and no flag changes
(R226, R227). -/
theorem exec_changeBit {i : Instr} {op b : Nat} {x : Place} {s : State} {change : Byte → Byte} {bit : Bool}
    (hwf : Memory.wf s.mem) (hs : shapeOf i = .changeBit op change x)
    (hbit : (change (operand s x)).getLsbD b = bit)
    (hother : ∀ j, j ≠ b → (change (operand s x)).getLsbD j = (operand s x).getLsbD j) :
    ∃ t v, exec i s = .next t ∧
      WritesOperand s t x v ∧ v.getLsbD b = bit ∧ (∀ j, j ≠ b → v.getLsbD j = (operand s x).getLsbD j) ∧
      t.f = s.f ∧ t.sp = s.sp ∧ RanThrough s t op 2 (cbCycles x 4) := by
  rw [operand_eq] at hbit hother ⊢
  obtain ⟨t, ht, hwrites, hrest⟩ := exec_writePlace hwf hs rfl rfl rfl
  rw [cbCycles_write]
  exact ⟨t, _, ht, hwrites, hbit, hother, hrest⟩

theorem encode_resI {b : Nat} (hb : b < 8) (x : Place) :
    encode (resI b x) = [0xCB, xyz 2 (BitVec.ofNat 3 b) (placeCode x)] := by
  cases x with
  | reg r => interval_cases b <;> cases r <;> rfl
  | memHL => interval_cases b <;> rfl

theorem shapeOf_resI {b : Nat} (hb : b < 8) (x : Place) :
    shapeOf (resI b x) = .changeBit (0xCB00 + (xyz 2 (BitVec.ofNat 3 b) (placeCode x)).toNat) (resetBit b) x := by
  cases x with
  | reg r => interval_cases b <;> cases r <;> rfl
  | memHL => interval_cases b <;> rfl

theorem encode_setI {b : Nat} (hb : b < 8) (x : Place) :
    encode (setI b x) = [0xCB, xyz 3 (BitVec.ofNat 3 b) (placeCode x)] := by
  cases x with
  | reg r => interval_cases b <;> cases r <;> rfl
  | memHL => interval_cases b <;> rfl

theorem shapeOf_setI {b : Nat} (hb : b < 8) (x : Place) :
    shapeOf (setI b x) = .changeBit (0xCB00 + (xyz 3 (BitVec.ofNat 3 b) (placeCode x)).toNat) (setBit b) x := by
  cases x with
  | reg r => interval_cases b <;> cases r <;> rfl
  | memHL => interval_cases b <;> rfl

/-- Settles O21: `resetBit b` and `setBit b` of the operand are written back. -/
theorem resetAndSetBit : Obligations.ResetAndSetBit := by
  intro b x s hb hwf
  simp only [List.forall_mem_cons]
  refine ⟨⟨encode_resI hb x, ?_⟩, ⟨encode_setI hb x, ?_⟩, List.forall_mem_nil _⟩
  · exact exec_changeBit hwf (shapeOf_resI hb x) (by simp [getLsbD_resetBit hb])
      fun j hj => by simp [getLsbD_resetBit hb, hj]
  · exact exec_changeBit hwf (shapeOf_setI hb x) (by simp [getLsbD_setBit hb])
      fun j hj => by simp [getLsbD_setBit hb, hj]

end Sys2Proof.Proofs
end

section
/-!
PROOFS. Control transfer (spec/45_control_flow.md): the frames of a jump, of a call and of a return. A conditional jump
is a jump in both cases, not taken to the address past its bytes; a conditional call or return not taken is such a jump
too.
-/
open Sys2Proof Sys2Proof.Machine Sys2Proof.Stated

namespace Sys2Proof.Machine

/-- `JP cc,nn` with its target and cycles by cases (R242). -/
theorem run_jumpIf (op : Nat) (k : Cond) (nn : Word) (s : State) :
    (Shape.jumpIf op k nn).run s =
      .next (State.spend { s.fetched 3 with pc := if k.holds s.flags then nn else s.pcAfter 3 } op
        (if k.holds s.flags then 4 else 3) (k.holds s.flags)) := by
  rw [Shape.run, jumpIf]
  cases k.holds s.flags <;> rfl

/-- `JR cc,e` with its target and cycles by cases (R245). -/
theorem run_relativeIf (op : Nat) (k : Cond) (e : Byte) (s : State) :
    (Shape.relativeIf op k e).run s =
      .next (State.spend { s.fetched 2 with
        pc := if k.holds s.flags then s.pcAfter 2 + sext16 e else s.pcAfter 2 } op
        (if k.holds s.flags then 3 else 2) (k.holds s.flags)) := by
  rw [Shape.run, relativeIf]
  cases k.holds s.flags <;> rfl

end Sys2Proof.Machine

namespace Sys2Proof.Proofs

/-! ### Jumps -/

/-- An instruction that puts `v` in PC changes no register, no flag, not SP and not the bus. -/
theorem exec_jumpTo {i : Instr} {k : Shape} {s : State} {v : Word} {op len n : Nat} {taken : Bool}
    (hs : shapeOf i = k) (hrun : k.run s = .next (State.spend { s.fetched len with pc := v } op n taken))
    (hq : k.quiet = true) :
    ∃ t, exec i s = .next t ∧
      t.pc = v ∧ RegsKept [] s t ∧ t.f = s.f ∧ t.sp = s.sp ∧ BusKept s t ∧ Ran s t op taken n :=
  ⟨_, exec_of_shapeOf hs hrun, rfl, .intro rfl rfl rfl rfl rfl rfl rfl _, rfl, rfl,
    .intro rfl rfl rfl rfl rfl rfl rfl rfl, Shape.ran hrun hq rfl rfl⟩

/-- Settles O22: each form puts its target in PC; that of JR is the address past both bytes and the displacement. -/
theorem jump : Obligations.Jump := by
  intro s
  refine ⟨fun nn => ?_, ⟨rfl, exec_jumpTo (len := 1) rfl rfl rfl⟩, fun e => ?_⟩
  · rw [low_eq, high_eq]
    exact ⟨rfl, exec_jumpTo (len := 3) rfl rfl rfl⟩
  · rw [pcPast_eq, ← add_sext16]
    exact ⟨rfl, exec_jumpTo (len := 2) rfl rfl rfl⟩

theorem encode_jpIfI (k : Cond) (nn : Word) :
    encode (jpIfI k nn) = [xyz 3 ((condCode k).setWidth 3) 2, low nn, high nn] := by
  rw [low_eq, high_eq]
  cases k <;> rfl

theorem shapeOf_jpIfI (k : Cond) (nn : Word) :
    shapeOf (jpIfI k nn) = .jumpIf (xyz 3 ((condCode k).setWidth 3) 2).toNat k nn := by
  cases k <;> rfl

theorem encode_jrIfI (k : Cond) (e : Byte) :
    encode (jrIfI k e) = [xyz 0 (4 + (condCode k).setWidth 3) 0, e] := by
  cases k <;> rfl

theorem shapeOf_jrIfI (k : Cond) (e : Byte) :
    shapeOf (jrIfI k e) = .relativeIf (xyz 0 (4 + (condCode k).setWidth 3) 0).toNat k e := by
  cases k <;> rfl

/-- Settles O23: both forms are jumps, to the target or to the address past their bytes. -/
theorem conditionalJump : Obligations.ConditionalJump := by
  intro k s
  rw [condTrue_eq, pcPast_eq, pcPast_eq]
  refine ⟨fun nn => ⟨encode_jpIfI k nn, ?_⟩, fun e => ⟨encode_jrIfI k e, ?_⟩⟩
  · exact exec_jumpTo (shapeOf_jpIfI k nn) (run_jumpIf _ k nn s) rfl
  · rw [← add_sext16]
    exact exec_jumpTo (shapeOf_jrIfI k e) (run_relativeIf _ k e s) rfl

/-! ### Calls -/

/-- An instruction that calls `v` pushes the address past its bytes and changes no register and no flag. -/
theorem exec_callTo {i : Instr} {k : Shape} {s : State} {v : Word} {op len n : Nat} (hwf : Memory.wf s.mem)
    (hs : shapeOf i = k) (hrun : k.run s = .next (((s.fetched len).callTo v).spend op n)) (hq : k.quiet = true) :
    ∃ t, exec i s = .next t ∧
      t.pc = v ∧ Pushes s t (high (pcPast s len)) (low (pcPast s len)) ∧ RegsKept [] s t ∧ t.f = s.f ∧
      Ran s t op true n := by
  rw [pcPast_eq, high_eq, low_eq]
  refine ⟨_, exec_of_shapeOf hs hrun, by simp, ?_, ?_, by simp, Shape.ran hrun hq (by simp) (by simp)⟩
  · exact .intro (x := s.fetched len) (v := s.pcAfter len) hwf rfl rfl (fun b => by simp) (by simp) (by simp) rfl
      (fun _ => rfl) rfl rfl rfl
  · apply RegsKept.intro <;> simp

theorem encode_callIfI (k : Cond) (nn : Word) :
    encode (callIfI k nn) = [xyz 3 ((condCode k).setWidth 3) 4, low nn, high nn] := by
  rw [low_eq, high_eq]
  cases k <;> rfl

theorem shapeOf_callIfI (k : Cond) (nn : Word) :
    shapeOf (callIfI k nn) = .callIf (xyz 3 ((condCode k).setWidth 3) 4).toNat k nn := by
  cases k <;> rfl

theorem encode_call_nn (nn : Word) : encode (.call_nn nn) = [0xCD, low nn, high nn] := by
  rw [low_eq, high_eq]
  rfl

/-- Settles O24: a call where the condition holds, a jump past the three bytes where it does not. -/
theorem call : Obligations.Call := by
  intro nn s hwf
  refine ⟨⟨encode_call_nn nn, exec_callTo hwf rfl rfl rfl⟩, fun k => ⟨encode_callIfI k nn, ?_⟩⟩
  rw [condTrue_eq]
  by_cases hk : k.holds s.flags = true
  · obtain ⟨t, ht, hpc, hpush, hregs, hf, hran⟩ := exec_callTo hwf (shapeOf_callIfI k nn) (if_pos hk) rfl
    exact ⟨t, ht, hregs, hf, (if_pos hk).mpr ⟨hpc, hpush, hran⟩⟩
  · obtain ⟨t, ht, hpc, hregs, hf, hrest⟩ := exec_jumpTo (len := 3) (shapeOf_callIfI k nn) (if_neg hk) rfl
    exact ⟨t, ht, hregs, hf, (if_neg hk).mpr ⟨hpc.trans (pcPast_eq s 3).symm, hrest⟩⟩

theorem encode_rstI {y : Nat} (hy : y < 8) : encode (rstI y) = [xyz 3 (BitVec.ofNat 3 y) 7] := by
  interval_cases y <;> rfl

theorem shapeOf_rstI {y : Nat} (hy : y < 8) : shapeOf (rstI y) = .restart (xyz 3 (BitVec.ofNat 3 y) 7).toNat y := by
  interval_cases y <;> rfl

/-- Settles O27: a call of one byte. -/
theorem restart : Obligations.Restart := by
  intro y s hy hwf
  exact ⟨encode_rstI hy, exec_callTo hwf (shapeOf_rstI hy) rfl rfl⟩

/-! ### Returns -/

/-- An instruction that pops PC changes no register and no flag, and stores nothing. -/
theorem exec_popPc {i : Instr} {k : Shape} {s : State} {op len n : Nat} (hs : shapeOf i = k)
    (hrun : k.run s = .next ((s.fetched len).popPc.spend op n)) (hq : k.quiet = true) :
    ∃ t, exec i s = .next t ∧
      t.pc = s.memRead (s.sp + 1) ++ s.memRead s.sp ∧ Pops s t ∧ RegsKept [] s t ∧ t.f = s.f ∧ Ran s t op true n := by
  refine ⟨_, exec_of_shapeOf hs hrun, by simp [State.popped, wordOf], ⟨by simp, fun a => by simp, by simp⟩, ?_, by simp,
    Shape.ran hrun hq (by simp) (by simp)⟩
  apply RegsKept.intro <;> simp

theorem encode_retIfI (k : Cond) : encode (retIfI k) = [xyz 3 ((condCode k).setWidth 3) 0] := by
  cases k <;> rfl

theorem shapeOf_retIfI (k : Cond) : shapeOf (retIfI k) = .returnIf (xyz 3 ((condCode k).setWidth 3) 0).toNat k := by
  cases k <;> rfl

/-- Settles O25: PC is popped where the condition holds; where it does not, a jump past the byte. -/
theorem returns : Obligations.Return := by
  intro s
  refine ⟨⟨rfl, exec_popPc (len := 1) rfl rfl rfl⟩, fun k => ⟨encode_retIfI k, ?_⟩⟩
  rw [condTrue_eq]
  by_cases hk : k.holds s.flags = true
  · obtain ⟨t, ht, hpc, hpop, hregs, hf, hran⟩ := exec_popPc (shapeOf_retIfI k) (if_pos hk) rfl
    exact ⟨t, ht, hregs, hf, (if_pos hk).mpr ⟨hpc, hpop, hran⟩⟩
  · obtain ⟨t, ht, hpc, hregs, hf, hrest⟩ := exec_jumpTo (len := 1) (shapeOf_retIfI k) (if_neg hk) rfl
    exact ⟨t, ht, hregs, hf, (if_neg hk).mpr ⟨hpc.trans (pcPast_eq s 1).symm, hrest⟩⟩

end Sys2Proof.Proofs
end

section
/-!
PROOFS. CPU control (spec/46_cpu_control.md): NOP does nothing after its opcode byte has been fetched.
-/
open Sys2Proof Sys2Proof.Machine Sys2Proof.Stated

namespace Sys2Proof.Proofs

/-- Settles O28: the run of NOP is the fetch of its byte and one M-cycle, and neither reaches a register, a flag, SP or
the bus. -/
theorem noOperation : Obligations.NoOperation := by
  intro s
  have hrun : Shape.nop.run s = .next ((s.fetched 1).spend 0x00 1) := rfl
  have hexec : exec .nop s = .next ((s.fetched 1).spend 0x00 1) := exec_of_shapeOf rfl hrun
  exact ⟨rfl, _, hexec, fun r _ => by simp, by simp, by simp, ⟨fun a => by simp, by simp⟩,
    Shape.ranThrough hrun rfl rfl (by simp)⟩

end Sys2Proof.Proofs
end

section
/-!
PROOFS. Exceptions and the timer (spec/60_exceptions.md): the undefined bytes are the one way an instruction faults,
and the DIV part of an advance is the rule's loop.
-/
open Sys2Proof Sys2Proof.Machine Sys2Proof.Stated

namespace Sys2Proof.Proofs

/-! ### The exceptions -/

/-- An instruction without behaviour raises the decode error, whose record names one byte (R280). -/
theorem exec_of_isIllegal {i : Instr} (hi : i.isIllegal = true) (s : State) :
    ∃ op, exec i s = .next (s.raiseUndefinedOpcode op) := by
  obtain ⟨op, hrow⟩ := exists_mem_illegalRows hi
  exact ⟨op, exec_of_mem_illegalRows s _ hrow⟩

/-- An instruction with behaviour leaves a running core without a fault (R283). -/
theorem not_faulted_of_legal {i : Instr} {s t : State} (h : exec i s = .next t) (hi : i.isIllegal = false)
    (hrun : s.runState = .running) (r : FaultRecord) : t.runState ≠ .faulted r := by
  rcases exec_runState h hi hrun with ht | ht <;> rw [ht] <;> nofun

/-- Settles O38: an instruction without behaviour raises the first error kind, and every other one completes with the
core running or stopped. -/
theorem onlyUndefinedBytesFault : Obligations.OnlyUndefinedBytesFault := by
  intro i s hrun
  cases hi : i.isIllegal with
  | true =>
    obtain ⟨op, hexec⟩ := exec_of_isIllegal hi s
    have hfault := s.raiseUndefinedOpcode_runState op
    refine ⟨_, hexec, iff_of_true ⟨_, hfault⟩ rfl, fun r hr => ?_⟩
    obtain rfl := RunState.faulted.inj (hfault.symm.trans hr)
    nofun
  | false =>
    obtain ⟨t, hexec⟩ := exec_next i s
    have hlegal := not_faulted_of_legal hexec hi hrun
    exact ⟨t, hexec, iff_of_false (fun ⟨r, hr⟩ => hlegal r hr) nofun, fun r hr => absurd hr (hlegal r)⟩

/-! ### DIV -/

/-- With as many turns as the counter has cycles, the loop of R301 leaves the counter's remainder by 64 and adds the
quotient to DIV. -/
theorem divLoop_eq (fuel counter : Nat) (div : Byte) (h : counter ≤ fuel) :
    divLoop fuel counter div = (counter % 64, div + BitVec.ofNat 8 (counter / 64)) := by
  induction fuel generalizing counter div with
  | zero =>
    obtain rfl := Nat.le_zero.1 h
    simp [divLoop]
  | succ fuel ih =>
    unfold divLoop
    split
    case isTrue hge =>
      have hdiv : counter / 64 = 1 + (counter - 64) / 64 := by omega
      rw [ih _ _ (by omega), ← Nat.mod_eq_sub_mod hge, hdiv, BitVec.ofNat_add, ← BitVec.add_assoc]
      rfl
    case isFalse hlt =>
      rw [Nat.mod_eq_of_lt (by omega), Nat.div_eq_of_lt (by omega)]
      simp

/-- Settles O46: the remainder and the quotient of the model's DIV part are those of the loop, and the TIMA part
reaches neither. -/
theorem divAdvanceIsTheLoop : Obligations.DivAdvanceIsTheLoop := by
  intro s n fuel h
  rw [divLoop_eq fuel _ s.div h]
  exact ⟨s.timerAdvance_divCounter n, s.timerAdvance_div n, rfl⟩

end Sys2Proof.Proofs
end

section
/-!
PROOFS. Decoding and encoding (spec/30_encoding.md, sections 1, 4, 5, 6): what a first byte names, with the two bytes
after it, encodes to as many of the three as its length covers, and the decoder reads exactly those; every instruction
but the prefix row is named so.
-/
open Sys2Proof Sys2Proof.Machine Sys2Proof.Stated

namespace Sys2Proof.Proofs

/-! ### Round trips -/

/-- `encode_decodeOp` for the prefix byte too: the entry of the CB map has length 2 (R119). -/
theorem encode_decodeOp_eq_take (op b1 b2 : Byte) :
    encode (decodeOp op b1 b2) = [op, b1, b2].take (lengthOf op) := by
  by_cases hcb : op = 0xCB
  · subst hcb
    exact encode_cbInstr b1
  · exact encode_decodeOp op b1 b2 hcb

/-- The decoder reads the bytes that the first byte calls for, and no more (R102). -/
theorem decode_take_append (op b1 b2 : Byte) (rest : List Byte) :
    decode ([op, b1, b2].take (lengthOf op) ++ rest) = .ok (decodeOp op b1 b2, rest) := by
  rcases decodeOp_short op b1 b2 with hlen | ⟨hlen, hshort⟩ | ⟨hlen, hshort⟩
  · simp [decode, hlen]
  · simp [decode, hlen, hshort]
  · simp [decode, hlen, hshort]

/-- The two opcode maps name the instruction (R115, R116). -/
def Named (i : Instr) : Prop := ∃ op b1 b2, decodeOp op b1 b2 = i

/-- An instruction stands in the maps where its own encoding says. -/
theorem Named.of_encode {i : Instr} (h : decodeOp ((encode i).headD 0) ((encode i).getD 1 0) 0 = i) : Named i :=
  ⟨_, _, _, h⟩

/-- A byte of the base map that names `f` of the word after it names `f` of every word. -/
theorem Named.of_word {f : Word → Instr} (op : Byte) (h : ∀ b1 b2, decodeOp op b1 b2 = f (wordOf b2 b1))
    (nn : Word) : Named (f nn) :=
  ⟨op, loByte nn, hiByte nn, by rw [h, wordOf_hi_lo]⟩

/-- The maps name every instruction but the prefix row. -/
theorem named_of_ne_cbPrefix (i : Instr) (hi : i ≠ .cbPrefix) : Named i := by
  cases i
  case cbPrefix => exact absurd rfl hi
  -- the instructions with an operand word
  case ld_BC_nn => exact .of_word 0x01 (fun _ _ => rfl) _
  case ld_mnn_SP => exact .of_word 0x08 (fun _ _ => rfl) _
  case ld_DE_nn => exact .of_word 0x11 (fun _ _ => rfl) _
  case ld_HL_nn => exact .of_word 0x21 (fun _ _ => rfl) _
  case ld_SP_nn => exact .of_word 0x31 (fun _ _ => rfl) _
  case jp_NZ_nn => exact .of_word 0xC2 (fun _ _ => rfl) _
  case jp_nn => exact .of_word 0xC3 (fun _ _ => rfl) _
  case call_NZ_nn => exact .of_word 0xC4 (fun _ _ => rfl) _
  case jp_Z_nn => exact .of_word 0xCA (fun _ _ => rfl) _
  case call_Z_nn => exact .of_word 0xCC (fun _ _ => rfl) _
  case call_nn => exact .of_word 0xCD (fun _ _ => rfl) _
  case jp_NC_nn => exact .of_word 0xD2 (fun _ _ => rfl) _
  case call_NC_nn => exact .of_word 0xD4 (fun _ _ => rfl) _
  case jp_C_nn => exact .of_word 0xDA (fun _ _ => rfl) _
  case call_C_nn => exact .of_word 0xDC (fun _ _ => rfl) _
  case ld_mnn_A => exact .of_word 0xEA (fun _ _ => rfl) _
  case ld_A_mnn => exact .of_word 0xFA (fun _ _ => rfl) _
  -- the instructions with an operand byte
  case ld_B_n n => exact ⟨0x06, n, 0, rfl⟩
  case ld_C_n n => exact ⟨0x0E, n, 0, rfl⟩
  case ld_D_n n => exact ⟨0x16, n, 0, rfl⟩
  case jr_e e => exact ⟨0x18, e, 0, rfl⟩
  case ld_E_n n => exact ⟨0x1E, n, 0, rfl⟩
  case jr_NZ_e e => exact ⟨0x20, e, 0, rfl⟩
  case ld_H_n n => exact ⟨0x26, n, 0, rfl⟩
  case jr_Z_e e => exact ⟨0x28, e, 0, rfl⟩
  case ld_L_n n => exact ⟨0x2E, n, 0, rfl⟩
  case jr_NC_e e => exact ⟨0x30, e, 0, rfl⟩
  case ld_mHL_n n => exact ⟨0x36, n, 0, rfl⟩
  case jr_C_e e => exact ⟨0x38, e, 0, rfl⟩
  case ld_A_n n => exact ⟨0x3E, n, 0, rfl⟩
  case add_A_n n => exact ⟨0xC6, n, 0, rfl⟩
  case adc_A_n n => exact ⟨0xCE, n, 0, rfl⟩
  case sub_n n => exact ⟨0xD6, n, 0, rfl⟩
  case sbc_A_n n => exact ⟨0xDE, n, 0, rfl⟩
  case ldh_mn_A n => exact ⟨0xE0, n, 0, rfl⟩
  case and_n n => exact ⟨0xE6, n, 0, rfl⟩
  case add_SP_e e => exact ⟨0xE8, e, 0, rfl⟩
  case xor_n n => exact ⟨0xEE, n, 0, rfl⟩
  case ldh_A_mn n => exact ⟨0xF0, n, 0, rfl⟩
  case or_n n => exact ⟨0xF6, n, 0, rfl⟩
  case ld_HL_SPe e => exact ⟨0xF8, e, 0, rfl⟩
  case cp_n n => exact ⟨0xFE, n, 0, rfl⟩
  -- the instructions whose bytes are all fixed
  all_goals exact .of_encode rfl

/-- Settles O32: the encoding of an instruction that the maps name is what the decoder reads of the bytes that name
it. -/
theorem decodeEncodeRoundTrip : Obligations.DecodeEncodeRoundTrip := by
  intro i rest hwf
  obtain ⟨op, b1, b2, rfl⟩ := named_of_ne_cbPrefix i (of_decide_eq_true hwf)
  rw [encode_decodeOp_eq_take]
  exact decode_take_append op b1 b2 rest

/-- What the decoder reads off a list, the prefix row apart, is what the first byte names, and the list begins with the
bytes read. -/
theorem eq_take_append_of_decode {op : Byte} {tail rest : List Byte} {i : Instr}
    (h : decode (op :: tail) = .ok (i, rest)) (hi : i ≠ .cbPrefix) :
    ∃ b1 b2, i = decodeOp op b1 b2 ∧ op :: tail = [op, b1, b2].take (lengthOf op) ++ rest := by
  have hlen := length_of_decode h hi
  rcases lengthOf_cases op with k | k | k
  · simp only [decode, k, Except.ok.injEq, Prod.mk.injEq] at h
    exact ⟨0, 0, h.1.symm, by simp [k, h.2]⟩
  · match tail with
    | [] => simp [k] at hlen
    | b1 :: tail =>
      simp only [decode, k, Except.ok.injEq, Prod.mk.injEq] at h
      exact ⟨b1, 0, h.1.symm, by simp [k, h.2]⟩
  · match tail with
    | [] | [_] => simp [decode, k] at h
    | b1 :: b2 :: tail =>
      simp only [decode, k, Except.ok.injEq, Prod.mk.injEq] at h
      exact ⟨b1, b2, h.1.symm, by simp [k, h.2]⟩

/-- Settles O33: the bytes read are the encoding of what they name. -/
theorem encodeDecodeRoundTrip : Obligations.EncodeDecodeRoundTrip := by
  intro bytes rest i h hwf
  cases bytes with
  | nil => cases h
  | cons op tail =>
    obtain ⟨b1, b2, rfl, hbytes⟩ := eq_take_append_of_decode h (of_decide_eq_true hwf)
    rw [encode_decodeOp_eq_take, hbytes]

/-- Settles O36: the decoder evaluates on each word. -/
theorem writtenWordsDecode : Obligations.WrittenWordsDecode :=
  ⟨rfl, rfl, rfl, rfl, rfl, rfl, rfl, rfl, rfl, rfl, rfl⟩

/-! ### The prefix row -/

/-- Settles O31: the second byte names an entry of the CB map, whose shape is the one the prefix row runs. -/
theorem prefixPerformsExtendedEntry : Obligations.PrefixPerformsExtendedEntry := by
  intro s
  have hexec : exec .cbPrefix s = exec (cbInstr (s.memRead (pcPast s 1))) s := by
    rw [exec_eq_run, exec_eq_run, shapeOf_cbInstr, pcPast_eq]
    exact run_cb s
  obtain ⟨t, ht⟩ := exec_next (cbInstr (s.memRead (pcPast s 1))) s
  exact ⟨_, t, rfl, decodeOp_ne_cbPrefix 0xCB _ 0, hexec.trans ht, ht⟩

end Sys2Proof.Proofs
end

section
/-!
PROOFS. The step (spec/60_exceptions.md, sections 1 to 3): its four outcomes, said once in `Stepped`, and what every
step keeps, reports and may change in the interrupt state.
-/
open Sys2Proof Sys2Proof.Machine Sys2Proof.Stated

namespace Sys2Proof.Machine

/-! ### The parts of a step -/

theorem State.fault_eq_some_iff (s : State) (r : FaultRecord) : s.fault = some r ↔ s.runState = .faulted r := by
  unfold State.fault
  cases s.runState <;> simp

/-- The latch completes only where it was set when the step began and is set still (R270, R294). -/
@[simp] theorem State.completeLatch_ime (s : State) (armed : Bool) :
    (s.completeLatch armed).ime = (s.ime || (armed && s.eiPending)) := by
  unfold State.completeLatch
  cases armed <;> cases s.eiPending <;> simp

@[simp] theorem State.completeLatch_eiPending (s : State) (armed : Bool) :
    (s.completeLatch armed).eiPending = (s.eiPending && !armed) := by
  unfold State.completeLatch
  cases armed <;> cases h : s.eiPending <;> simp [h]

@[simp] theorem State.memRead_completeLatch (s : State) (armed : Bool) (a : Word) :
    (s.completeLatch armed).memRead a = s.memRead a := by
  apply State.memRead_congr <;> simp

@[simp] theorem State.reg8_completeLatch (s : State) (armed : Bool) (r : Reg8) :
    (s.completeLatch armed).reg8 r = s.reg8 r := by
  cases r <;> simp [State.reg8]

@[simp] theorem State.reg8_timerAdvance (s : State) (n : Nat) (r : Reg8) : (s.timerAdvance n).reg8 r = s.reg8 r := by
  cases r <;> simp [State.reg8]

theorem finishInstr_of_faulted (u : State) {d : State} {r : FaultRecord} (h : d.runState = .faulted r) :
    u.finishInstr d = { u with runState := .faulted r, cycles := 0 } := by
  unfold State.finishInstr
  rw [h]

theorem finishInstr_of_not_faulted (u : State) {d : State} (h : ∀ r, d.runState ≠ .faulted r) :
    u.finishInstr d = (d.completeLatch u.eiPending).timerAdvance d.cycles := by
  unfold State.finishInstr
  split
  · exact absurd ‹_› (h _)
  · rfl

/-- The environment leaves the latches, and the fields that no bus access reaches, as they were. -/
theorem halted_environment (s : State) : s.environment.halted = s.halted := by rw [(environment_only s).1.rest]

theorem ime_environment (s : State) : s.environment.ime = s.ime := by rw [(environment_only s).1.rest]

theorem eiPending_environment (s : State) : s.environment.eiPending = s.eiPending := by
  rw [(environment_only s).1.rest]

theorem cfg_environment (s : State) : s.environment.cfg = s.cfg := by rw [(environment_only s).1.rest]

theorem pc_environment (s : State) : s.environment.pc = s.pc := by rw [(environment_only s).1.rest]

theorem sp_environment (s : State) : s.environment.sp = s.sp := by rw [(environment_only s).1.rest]

theorem f_environment (s : State) : s.environment.f = s.f := by rw [(environment_only s).1.rest]

theorem ie_environment (s : State) : s.environment.ie = s.ie := by rw [(environment_only s).1.rest]

theorem reg8_environment (s : State) (r : Reg8) : s.environment.reg8 r = s.reg8 r := by
  rw [(environment_only s).1.rest]
  cases r <;> rfl

theorem haltBug_environment (s : State) : s.environment.haltBug = s.haltBug := by rw [(environment_only s).1.rest]

theorem wf_environment {s : State} (h : Memory.wf s.mem) : Memory.wf s.environment.mem :=
  (environment_only s).1.memory h

end Sys2Proof.Machine

namespace Sys2Proof.Proofs

/-! ### The outcomes of a step -/

/-- A fault of the instruction at PC: its record names PC and the undefined byte there (R280). -/
theorem record_of_exec_instrAtPc {s d : State} {r : FaultRecord} (hrun : s.runState = .running)
    (hx : exec s.instrAtPc s = .next d) (hd : d.runState = .faulted r) :
    r = ⟨.undefinedOpcode, s.pc, s.memRead s.pc⟩ ∧ s.memRead s.pc ∈ illegalRows.map Prod.snd := by
  cases hi : s.instrAtPc.isIllegal with
  | false => exact absurd hd (not_faulted_of_legal hx hi hrun r)
  | true =>
    have hrow : (s.instrAtPc, s.memRead s.pc) ∈ illegalRows := decodeOp_mem_illegalRows hi
    obtain rfl := Host.Outcome.next.inj (hx.symm.trans (exec_of_mem_illegalRows s _ hrow))
    exact ⟨(RunState.faulted.inj hd).symm, List.mem_map_of_mem (f := Prod.snd) hrow⟩

/-- What a step makes of the state `u` that the environment leaves: it dispatches (R291), idles (R293), takes the decode
error (R277, R280), or completes the instruction at PC (R270). -/
inductive Stepped (u t : State) : Prop where
  | dispatches (hd : u.mustDispatch = true) (ht : t = u.wake.dispatchInterrupt.timerAdvance 5)
  | idles (hh : u.halted = true) (hp : u.pending = 0) (ht : t = u.idle.timerAdvance 1)
  | faults (r : FaultRecord) (hr : r = ⟨.undefinedOpcode, u.pc, u.memRead u.pc⟩)
      (hop : u.memRead u.pc ∈ illegalRows.map Prod.snd) (ht : t = { u with runState := .faulted r, cycles := 0 })
  | completes (d : State) (hx : exec u.instrAtPc { u with halted := false } = .next d)
      (hd : ∀ r, d.runState ≠ .faulted r) (ht : t = (d.completeLatch u.eiPending).timerAdvance d.cycles)

theorem stepped_of_step {s t : State} (h : step s = .next t) : s.runState = .running ∧ Stepped s.environment t := by
  obtain ⟨hrun, hcases⟩ := step_cases h
  refine ⟨hrun, ?_⟩
  rw [← runState_environment] at hrun
  generalize s.environment = u at hrun hcases ⊢
  rcases hcases with ⟨hd, ht⟩ | ⟨-, hw, ht⟩ | ⟨-, hw, d, hx, ht⟩
  · exact .dispatches hd ht
  · rw [State.wake_eq] at hw ht
    obtain ⟨hh, hp⟩ : u.halted = true ∧ u.pending = 0 := by simpa using hw
    refine .idles hh hp (ht.trans ?_)
    simp only [hh, hp, decide_true, Bool.and_self]
    rw [← hh]
  · have hwake : u.wake = { u with halted := false } := by
      rw [State.wake_eq] at hw ⊢
      simp only at hw
      rw [hw]
    rw [State.instrAtPc_wake, hwake] at hx
    by_cases hd : ∃ r, d.runState = .faulted r
    · obtain ⟨r, hd⟩ := hd
      obtain ⟨hr, hop⟩ := record_of_exec_instrAtPc (s := { u with halted := false }) hrun hx hd
      exact .faults r hr hop (ht.trans (finishInstr_of_faulted u hd))
    · have hd : ∀ r, d.runState ≠ .faulted r := not_exists.1 hd
      exact .completes d hx hd (ht.trans (finishInstr_of_not_faulted u hd))

/-! ### The invariant -/

/-- The invariant holds after an advance of the timer, where memory, F, the latch and `run_state` are in order before
it and the accumulator of TIMA is below its longest period: the advance itself brings both accumulators below their
periods (R303). -/
theorem inv_timerAdvance {s : State} (n : Nat) (hmem : Memory.wf s.mem) (hf : s.f &&& 0x0F = 0)
    (htima : s.timaCounter < 256) (hlatch : ¬(s.halted = true ∧ s.eiPending = true))
    (hrun : ∀ r, s.runState ≠ .faulted r) : (s.timerAdvance n).Inv where
  memory := by simpa using hmem
  flagByte := by simpa using hf
  divBound := by
    rw [State.timerAdvance_divCounter]
    exact Nat.mod_lt _ (by decide)
  timaBound := by
    rw [State.timaCounter_timerAdvance]
    split
    · exact (Nat.mod_lt _ (timaPeriod_pos _)).trans_le (timaPeriod_le _)
    · exact htima
  timaPeriodBound := by
    intro hen
    rw [State.timerEnabled, State.timerAdvance_tac] at hen
    rw [State.timaCounter_timerAdvance, if_pos hen, State.timerAdvance_tac]
    exact Nat.mod_lt _ (timaPeriod_pos _)
  latch := by simpa using hlatch
  record := by
    intro r hr
    rw [State.fault_eq_some_iff, State.timerAdvance_runState] at hr
    exact absurd hr (hrun r)

/-- The environment writes IF and memory only, and keeps memory's canonical form. -/
theorem inv_environment {s : State} (h : s.Inv) : s.environment.Inv := by
  have hmem := wf_environment h.memory
  rw [(environment_only s).1.rest]
  exact ⟨hmem, h.flagByte, h.divBound, h.timaBound, h.timaPeriodBound, h.latch, h.record⟩

/-- Only HALT leaves the core halted, and HALT leaves the latch as it was. -/
theorem eiPending_of_halted {i : Instr} {s d : State} (hx : exec i s = .next d) (hs : s.halted = false)
    (hd : d.halted = true) : d.eiPending = s.eiPending := by
  have hc := exec_control hx
  generalize shapeOf i = k at hc
  cases hc with
  | halts _ _ he => exact he
  | faults _ h => rw [h]; rfl
  | stops _ h | returns h | disables h | arms h | leaves _ h =>
    exact absurd (hd.symm.trans (h.halted.trans hs)) nofun

/-- Settles O56: a fault leaves the invariant of the state it found and records an undefined byte at PC; every other
step ends in an advance of the timer, before which `Steady` keeps memory, F and the accumulator, and the latch that a
halting instruction leaves set completes. -/
theorem stepKeepsInvariant : Obligations.StepKeepsInvariant := by
  intro s t hs h
  obtain ⟨hrun, hstep⟩ := stepped_of_step h
  have hu := inv_environment hs
  rw [← runState_environment] at hrun
  rw [← cfg_environment s, ← (environment_only s).2]
  generalize s.environment = u at hrun hstep hu ⊢
  have hfault (r) : u.runState ≠ .faulted r := by rw [hrun]; nofun
  cases hstep with
  | dispatches _ ht =>
    have hk := dispatchInterrupt_steady u.wake
    subst ht
    refine ⟨inv_timerAdvance 5 (hk.memory ?_) (hk.flagByte ?_) ?_ nofun ?_, by simp, by simp⟩
    · simpa using hu.memory
    · simpa using hu.flagByte
    · simpa using hu.timaBound
    · simpa using hfault
  | idles hh hp ht =>
    subst ht
    exact ⟨inv_timerAdvance 1 hu.memory hu.flagByte hu.timaBound hu.latch hfault, by simp, by simp⟩
  | faults r hr hop ht =>
    subst ht
    refine ⟨⟨hu.memory, hu.flagByte, hu.divBound, hu.timaBound, hu.timaPeriodBound, hu.latch, fun r' hr' => ?_⟩,
      rfl, rfl⟩
    obtain rfl : r = r' := Option.some.inj hr'
    rw [hr]
    exact ⟨rfl, rfl⟩
  | completes d hx hd ht =>
    have hk := exec_steady hx
    subst ht
    refine ⟨inv_timerAdvance _ ?_ ?_ ?_ ?_ ?_, by simp [hk.cfg], by simp [hk.env]⟩
    · simpa using hk.memory hu.memory
    · simpa using hk.flagByte hu.flagByte
    · simpa [hk.timaCounter] using hu.timaBound
    · rw [State.completeLatch_halted, State.completeLatch_eiPending]
      rintro ⟨hhalt, hei⟩
      have he : d.eiPending = u.eiPending := eiPending_of_halted (s := { u with halted := false }) hx rfl hhalt
      simp [he] at hei
    · simpa using hd

/-- Settles O57: the reset values, one by one. -/
theorem resetHasInvariant : Obligations.ResetHasInvariant :=
  ⟨Memory.wf_nil, by decide, by decide, by decide, nofun, nofun, nofun⟩

/-! ### Which states have a step, and what it reports -/

/-- Settles O40: the step is not enabled in FAULTED and STOPPED by definition, and each outcome of a step in RUNNING
reports its cycles. -/
theorem stuckOnlyWhenFaultedOrStopped : Obligations.StuckOnlyWhenFaultedOrStopped := by
  intro s
  refine ⟨fun r hr => by rw [step, hr], fun hr => by rw [step, hr], fun hr => ?_⟩
  obtain ⟨t, ht⟩ := step_next s hr
  refine ⟨t, ht, ?_⟩
  have hstep := (stepped_of_step ht).2
  rw [← runState_environment] at hr
  have hfault (r) : s.environment.runState ≠ .faulted r := by rw [hr]; nofun
  cases hstep with
  | dispatches _ ht => exact .inr ⟨by simpa [ht] using hfault, by simp [ht]⟩
  | idles _ _ ht => exact .inr ⟨by simpa [ht] using hfault, by simp [ht]⟩
  | faults r _ _ ht => exact .inl ⟨⟨r, by rw [ht]⟩, by rw [ht]⟩
  | completes d hx hd ht =>
    refine .inr ⟨by simpa [ht] using hd, ?_⟩
    rcases exec_cycles hx with ⟨op, hraise⟩ | hpos
    · exact absurd (hraise ▸ State.raiseUndefinedOpcode_runState _ op) (hd _)
    · simpa [ht] using hpos

/-- Settles O41: of the four outcomes only the decode error ends FAULTED. -/
theorem faultingStepChangesNothing : Obligations.FaultingStepChangesNothing := by
  intro s t r h hf
  obtain ⟨hrun, hstep⟩ := stepped_of_step h
  rw [← runState_environment] at hrun
  cases hstep with
  | dispatches _ ht => simp [ht, hrun] at hf
  | idles _ _ ht => simp [ht, hrun] at hf
  | completes d _ hd ht => exact absurd (by simpa [ht] using hf) (hd r)
  | faults r' hr hop ht =>
    subst ht
    obtain rfl : r' = r := RunState.faulted.inj hf
    exact ⟨rfl, hr, hop⟩

/-- Settles O37: the row raises the decode error, which writes the record, `run_state` and the cycles. -/
theorem undefinedRowsRaise : Obligations.UndefinedRowsRaise :=
  fun row hrow s => ⟨encode_of_mem_illegalRows row hrow, exec_of_mem_illegalRows s row hrow⟩

end Sys2Proof.Proofs
end

section
/-!
PROOFS. What a step does in each situation (spec/60_exceptions.md, sections 1 and 3): the instruction at PC, the enable
latch, the halt bug, dispatch and HALT, and the two ends of a run that last (spec/70_reset_and_hazards.md, section 3).
-/
open Sys2Proof Sys2Proof.Machine Sys2Proof.Stated

namespace Sys2Proof.Machine

@[simp] theorem State.pending_wake (s : State) : s.wake.pending = s.pending := by
  simp [State.pending]

@[simp] theorem State.reg8_wake (s : State) (r : Reg8) : s.wake.reg8 r = s.reg8 r := by
  cases r <;> simp [State.reg8]

/-- A pending request wakes the core (R290). -/
theorem State.wake_of_pending {s : State} (h : s.pending ≠ 0) : s.wake = { s with halted := false } := if_neg h

theorem State.wake_of_not_halted {s : State} (h : s.halted = false) : s.wake = s := by
  rw [State.wake_eq, h, Bool.false_and, ← h]

theorem State.mustDispatch_iff (s : State) : s.mustDispatch = true ↔ s.ime = true ∧ s.pending ≠ 0 := by
  simp [State.mustDispatch]

/-- A timer that is not enabled leaves IF alone (R302). -/
theorem State.iflag_timerAdvance_of_idle {s : State} (h : s.timerEnabled = false) (n : Nat) :
    (s.timerAdvance n).iflag = s.iflag := by
  have h' : ¬(s.advanceDiv n).timerEnabled = true := by rw [← Bool.not_eq_true] at h; exact h
  rw [State.timerAdvance, State.advanceTima, if_neg h', State.advanceDiv_iflag]

/-- Nothing is pending where no source is enabled (R290). -/
theorem State.pending_eq_zero {s : State} (h : s.ie &&& 0x1F = 0) : s.pending = 0 := by
  rw [State.pending, BitVec.and_assoc, h]
  exact BitVec.and_zero

/-- RETI and DI are the instructions of their shapes. -/
theorem reti_of_shape (i : Instr) (h : shapeOf i = .reti) : i = .reti := by
  revert h
  cases i <;> first | exact fun _ => rfl | exact nofun

theorem di_of_shape (i : Instr) (h : shapeOf i = .di) : i = .di := by
  revert h
  cases i <;> first | exact fun _ => rfl | exact nofun

end Sys2Proof.Machine

namespace Sys2Proof.Proofs

/-! ### The instruction at PC -/

/-- A step that executes `i` ends as `i` does from the state the environment and the wake leave (R270). -/
theorem step_eq_finishInstr {s d : State} {i : Instr} (hex : Executes s.environment) (hi : AtPc s.environment i)
    (hd : exec i s.environment.wake = .next d) : step s = .next (s.environment.finishInstr d) := by
  obtain rfl := (atPc_iff _ _).1 hi
  obtain ⟨d', hd', hstep, -⟩ := step_of_executes hex
  obtain rfl := Host.Outcome.next.inj (hd'.symm.trans hd)
  exact hstep

/-- Settles O39: the two ends of a step that executes are the two branches of `finishInstr`. -/
theorem stepRunsDecodedInstruction : Obligations.StepRunsDecodedInstruction := by
  intro s d i _ hex hi hd
  rw [step_eq_finishInstr hex hi hd]
  unfold State.finishInstr
  cases d.runState <;> rfl

/-- A step that executes an instruction with a behaviour completes it (R270). -/
theorem eq_of_step_executes {s d t : State} {i : Instr} (hex : Executes s.environment) (hi : AtPc s.environment i)
    (hd : exec i s.environment.wake = .next d) (hlegal : i.isIllegal = false) (h : step s = .next t) :
    t = (d.completeLatch s.environment.eiPending).timerAdvance d.cycles := by
  rw [step_eq_finishInstr hex hi hd, finishInstr_of_legal hd hlegal hex.1] at h
  exact (Host.Outcome.next.inj h).symm

/-- Settles O44: what the completion of the latch leaves of IME and the latch. -/
theorem enableTakesEffectAfterNextInstruction : Obligations.EnableTakesEffectAfterNextInstruction := by
  intro s d t i _ hex hi hd hlegal h
  rw [eq_of_step_executes hex hi hd hlegal h, State.timerAdvance_ime, State.timerAdvance_eiPending,
    State.completeLatch_ime, State.completeLatch_eiPending]
  refine ⟨fun hs hd => by simp [hs, hd], ?_⟩
  rintro (hs | hd)
  · simp [hs]
  · simp [hd]

/-- HALT with IME 0 and a request pending arms the halt bug, and does not halt (R261). -/
theorem exec_halt_of_pending {s : State} (hime : s.ime = false) (hp : s.pending ≠ 0) :
    exec .halt s = .next (State.spend { s.fetched 1 with haltBug := true } 0x76 1) := by
  have hcond : (s.fetched 1).ime = false ∧ (s.fetched 1).pending ≠ 0 := ⟨hime, hp⟩
  have hhalt : (s.fetched 1).haltNow = { s.fetched 1 with haltBug := true } := if_pos hcond
  rw [← hhalt]
  rfl

/-- An instruction at PC that transfers no control leaves PC past its bytes, and the halt bug used up, but for HALT
(R29, R275). -/
theorem exec_through {u s d : State} {i : Instr} (hi : AtPc u i) (hlegal : i.isIllegal = false)
    (hnot : ¬ TransfersControl i) (hd : exec i s = .next d) :
    d.pc = s.pcAfter (encode i).length ∧ (i ≠ .halt → d.haltBug = false) := by
  have hcb : i ≠ .cbPrefix := by
    rw [(atPc_iff _ _).1 hi]
    exact decodeOp_ne_cbPrefix _ _ _
  obtain ⟨n, hn⟩ : ∃ n, (shapeOf i).through = some n := by
    rw [← Option.ne_none_iff_exists']
    intro hnone
    rcases transfers_of_through i hnone with h | h | h
    · exact hnot h
    · exact absurd (h.symm.trans hlegal) nofun
    · exact hcb h
  rw [exec_eq_run] at hd
  obtain ⟨hpc, hbug⟩ := run_through _ _ _ n hn hd
  rw [shapeOf_through i n hn]
  exact ⟨hpc, fun hne => hbug (hne ∘ halt_of_shape i)⟩

/-- Settles O45: HALT arms the halt bug one byte on, and the next instruction's fetch, under the halt bug, comes out one
byte short. -/
theorem haltBugRepeatsNextByte : Obligations.HaltBugRepeatsNextByte := by
  intro s t u i hrun hime hbug hp hhalt ht hex hi hnot hlegal hu
  rw [← runState_environment] at hrun
  rw [← ime_environment] at hime
  -- the step that executes HALT
  have hhexec := exec_halt_of_pending (s := s.environment.wake) (by simpa using hime) (by simpa using hp)
  have htv := eq_of_step_executes ⟨hrun, .inl hime, .inr hp⟩ hhalt hhexec rfl ht
  have htpc : t.pc = s.pc + 1 := by
    rw [htv]
    simp [State.pcAfter, haltBug_environment, hbug, pc_environment]
  have htbug : t.haltBug = true := by simp [htv]
  have hthalted : t.halted = false := by simp [htv, State.wake_of_pending hp]
  -- the step that executes `i`
  obtain ⟨d, hd⟩ := exec_next i t.environment.wake
  obtain ⟨hdpc, hdbug⟩ := exec_through hi hlegal hnot hd
  have huv := eq_of_step_executes hex hi hd hlegal hu
  have hupc : u.pc = t.pc + BitVec.ofNat 16 ((encode i).length - 1) := by
    rw [huv, State.timerAdvance_pc, State.completeLatch_pc, hdpc]
    simp [State.pcAfter, haltBug_environment, htbug, pc_environment]
  refine ⟨htpc, htbug, hthalted, hupc, fun hone => by simp [hupc, hone], fun hne => ?_⟩
  rw [huv, State.timerAdvance_haltBug, State.completeLatch_haltBug, hdbug hne]

/-! ### Dispatch and HALT -/

/-- Settles O42: the dispatch from the state that the environment and the wake leave, field by field. -/
theorem dispatchTakesLowestSource : Obligations.DispatchTakesLowestSource := by
  intro s k u hwf hrun hime hk hbit hlow
  have hp : u.pending ≠ 0 := by
    intro hzero
    simp [hzero] at hbit
  have hsource : lowestSource u.wake.pending = k := by
    rw [State.pending_wake]
    exact lowestSource_eq _ k hk hbit hlow
  obtain ⟨hread, hdiv, -⟩ := memRead_push16 u.wake (by simpa using wf_environment hwf) u.wake.pc
  have hwake : u.wake.memRead = u.memRead := funext (State.memRead_wake u)
  simp only [State.wake_cfg, State.wake_sp, State.wake_pc, State.wake_divCounter, hwake, ← high_eq, ← low_eq]
    at hread hdiv
  refine ⟨u.wake.dispatchInterrupt, step_of_dispatch hrun ((State.mustDispatch_iff u).2 ⟨hime, hp⟩), ?_, ?_,
    fun a => ?_, ?_, rfl, rfl, rfl, rfl, fun r _ => by simp, by simp, by simp, by simp, by simp, by simp, by simp⟩
  · rw [State.dispatchInterrupt_pc, hsource, vectorOf, BitVec.ofNat_add]
    rfl
  · rw [State.dispatchInterrupt_sp, State.wake_sp]
    bv_omega
  · rw [State.memRead_dispatchInterrupt, State.wake_pc, hread, hsource]
  · rw [State.dispatchInterrupt_divCounter, State.wake_pc, hdiv]

/-- Settles O43: an idle step, and a wake after which `halted` is clear whatever it was. -/
theorem haltedStepIdlesOrWakes : Obligations.HaltedStepIdlesOrWakes := by
  intro s hrun
  refine ⟨step_of_idle hrun, fun i hime hp hi hlegal => ?_⟩
  rw [← runState_environment] at hrun
  rw [← ime_environment] at hime
  have henv := environment_halted s false
  have hex : Executes s.environment := ⟨hrun, .inl hime, .inr hp⟩
  have hex' : Executes (State.environment { s with halted := false }) := by
    rw [henv]
    exact ⟨hrun, .inl hime, .inl rfl⟩
  have hi' : AtPc (State.environment { s with halted := false }) i := by
    rw [henv]
    exact hi
  have hwake : (State.environment { s with halted := false }).wake = s.environment.wake := by
    rw [henv, State.wake_of_pending hp]
    exact State.wake_of_pending hp
  obtain ⟨d, hd⟩ := exec_next i s.environment.wake
  rw [step_eq_finishInstr hex hi hd, finishInstr_of_legal hd hlegal hrun]
  rw [step_eq_finishInstr hex' hi' (hwake ▸ hd), finishInstr_of_legal (hwake ▸ hd) hlegal hex'.1, henv]

/-! ### IME -/

/-- RETI alone raises IME, and DI alone clears it, among the instructions (R38). -/
theorem ime_of_exec {i : Instr} {s d : State} (hx : exec i s = .next d) :
    d.ime = s.ime ∨ (i = .reti ∧ d.ime = true) ∨ (i = .di ∧ d.ime = false) := by
  have hc := exec_control hx
  generalize hk : shapeOf i = k at hc
  cases hc with
  | faults _ h => exact .inl (by rw [h]; rfl)
  | halts _ hi _ => exact .inl hi
  | stops _ h | arms h | leaves _ h => exact .inl h.ime
  | returns h => exact .inr (.inl ⟨reti_of_shape i hk, h.ime⟩)
  | disables h => exact .inr (.inr ⟨di_of_shape i hk, h.ime⟩)

/-- Settles O59: by the outcomes of the step, where a completed instruction leaves IME as `ime_of_exec` says and the
latch may then complete. -/
theorem imeWriters : Obligations.ImeWriters := by
  intro s t h
  have hstep := (stepped_of_step h).2
  simp only [← ime_environment s, ← eiPending_environment s, atPc_iff]
  generalize s.environment = u at hstep ⊢
  cases hstep with
  | dispatches hd ht =>
    obtain ⟨hime, hp⟩ : u.ime = true ∧ u.pending ≠ 0 := (State.mustDispatch_iff u).1 hd
    exact ⟨fun hime' => absurd (hime.symm.trans hime') nofun, fun _ _ => .inl hp⟩
  | idles _ _ ht | faults _ _ _ ht =>
    have hsame : t.ime = u.ime := by simp [ht]
    rw [hsame]
    exact ⟨fun h h' => absurd (h.symm.trans h') nofun, fun h h' => absurd (h.symm.trans h') nofun⟩
  | completes d hx _ ht =>
    have htime : t.ime = (d.ime || (u.eiPending && d.eiPending)) := by simp [ht]
    rw [htime]
    rcases ime_of_exec hx with hd | ⟨hi, hd⟩ | ⟨hi, hd⟩
    · exact ⟨fun h h' => .inl (by simp_all), fun h h' => by simp_all⟩
    · exact ⟨fun _ _ => .inr hi.symm, fun _ h' => by simp [hd] at h'⟩
    · exact ⟨fun _ h' => .inl (by simp_all), fun _ _ => .inr hi.symm⟩

/-! ### The ends of a run that last -/

/-- A core halted for good finds nothing pending after the environment's moves. -/
theorem pending_environment_of_haltedForGood {s : State} (h : s.haltedForGood) : s.environment.pending = 0 := by
  obtain ⟨-, -, hie | ⟨-, hp, -, henv⟩⟩ := h
  · exact State.pending_eq_zero (by rw [ie_environment, hie])
  · rw [environment_nil henv, hp]

/-- The environment and the advance of the timer keep a core halted for good. -/
theorem haltedForGood_idle {s : State} (h : s.haltedForGood) :
    (State.timerAdvance { s.environment with cycles := 1 } 1).haltedForGood := by
  obtain ⟨hrun, hhalt, hend⟩ := h
  refine ⟨by simpa [runState_environment] using hrun, by simpa [halted_environment] using hhalt, ?_⟩
  rcases hend with hie | ⟨hie, hp, hidle, henv⟩
  · left
    rw [State.timerAdvance_ie, ← hie, ← ie_environment s]
  · right
    rw [environment_nil henv]
    have hflag := State.iflag_timerAdvance_of_idle (s := { s with cycles := 1 }) hidle 1
    refine ⟨by simpa using hie, ?_, ?_, by simpa using henv⟩
    · rw [State.pending, hflag, State.timerAdvance_ie]
      exact hp
    · rw [State.timerIdle, State.timerEnabled, State.timerAdvance_tac]
      exact hidle

/-- States that agree on PC and on the three bytes from there, with no halt bug, fetch one instruction (R276). -/
theorem instrAtPc_congr {s t : State} (hs : s.haltBug = false) (ht : t.haltBug = false) (hpc : t.pc = s.pc)
    (hread : ∀ j, j < 3 → t.memRead (s.pc + BitVec.ofNat 16 j) = s.memRead (s.pc + BitVec.ofNat 16 j)) :
    t.instrAtPc = s.instrAtPc := by
  have h0 : t.memRead s.pc = s.memRead s.pc := by simpa using hread 0 (by decide)
  have h1 := hread 1 (by decide)
  have h2 := hread 2 (by decide)
  simp [State.instrAtPc, State.pcAfter, hs, ht, hpc, h0, h1, h2]

/-- A spin goes on in every state with the PC, HL and F of a spinning one whose fetch names the same instruction. -/
theorem spinning_congr {s t : State} (h : s.spinning) (hrun : t.runState = .running) (hhalt : t.halted = false)
    (hbug : t.haltBug = false) (hi : t.instrAtPc = s.instrAtPc) (hpc : t.pc = s.pc) (hhl : t.hl = s.hl)
    (hf : t.f = s.f) : t.spinning := by
  obtain ⟨-, -, hsbug, hjump, s', hexec, hself⟩ := h
  obtain ⟨target, htarget⟩ := exec_jump s.instrAtPc hjump
  obtain ⟨s'', hs, hspc, -⟩ := htarget s
  obtain rfl := Host.Outcome.next.inj (hs.symm.trans hexec)
  obtain ⟨t', ht, htpc, -⟩ := htarget t
  refine ⟨hrun, hhalt, hbug, by rw [hi]; exact hjump, t', by rw [hi]; exact ht, ?_⟩
  rw [htpc, hpc, hhl, hf, hbug, ← hsbug, ← hspc, hself]

/-- A step that executes the jump to itself leaves, before the latch and the timer, what the environment left and the
cycles of the jump. -/
theorem step_of_spinning {s : State} (hspin : s.environment.spinning) (hex : Executes s.environment) :
    ∃ n, step s = .next ((State.completeLatch { s.environment with cycles := n } s.environment.eiPending).timerAdvance
      n) := by
  obtain ⟨hrun, hhalt, hbug, hjump, d, hd, hself⟩ := hspin
  obtain ⟨_, htarget⟩ := exec_jump s.environment.instrAtPc hjump
  obtain ⟨d', hd', -, hframe⟩ := htarget s.environment
  obtain rfl := Host.Outcome.next.inj (hd'.symm.trans hd)
  rw [hself, ← hbug] at hframe
  rw [← State.wake_of_not_halted hhalt] at hd
  refine ⟨d'.cycles, ?_⟩
  rw [step_eq_finishInstr hex ((atPc_iff _ _).2 (State.instrAtPc_wake _)) hd,
    finishInstr_of_legal hd ((State.instrAtPc_wake s.environment).symm ▸ isIllegal_of_isJump _ hjump) hrun,
    ← hframe]

/-- Settles O60: the idle step, and the jump to itself, which changes neither what it depends on nor, where the timer
does not write them, its own bytes. -/
theorem haltedForGoodAndSpinLast : Obligations.HaltedForGoodAndSpinLast := by
  intro s
  constructor
  · intro hgood
    refine ⟨_, step_of_idle hgood.1 hgood.2.1 (pending_environment_of_haltedForGood hgood), haltedForGood_idle hgood,
      by simp, by simp [pc_environment], by simp [sp_environment], by simp [f_environment], fun r _ => ?_,
      fun a ha => State.memRead_timerAdvance _ 1 a ha⟩
    rw [State.reg8_timerAdvance, ← reg8_environment s]
    cases r <;> rfl
  · intro hspin hex
    obtain ⟨n, hstep⟩ := step_of_spinning hspin hex
    have ⟨hrun, hhalt, hbug, _⟩ := hspin
    have hbytes (a) (ha : a ∉ timerBytes) :
        ((State.completeLatch { s.environment with cycles := n } s.environment.eiPending).timerAdvance n).memRead a =
          s.environment.memRead a :=
      (State.memRead_timerAdvance _ n a ha).trans (State.memRead_completeLatch _ _ a)
    refine ⟨_, hstep, by simp [pc_environment], by simp [sp_environment], by simp [f_environment], fun r _ => ?_,
      by simpa using hhalt, by simpa using hbug, by simpa using hrun, hbytes, fun hoff => ?_⟩
    · rw [State.reg8_timerAdvance, State.reg8_completeLatch, ← reg8_environment s]
      cases r <;> rfl
    · refine spinning_congr hspin (by simpa using hrun) (by simpa using hhalt) (by simpa using hbug) ?_ (by simp) ?_
        (by simp)
      · exact instrAtPc_congr hbug (by simpa using hbug) (by simp) fun j hj => hbytes _ (pc_environment s ▸ hoff j hj)
      · simp [State.hl]

end Sys2Proof.Proofs
end

section
/-!
PROOFS. The rest of the instruction families: SP with a displacement, and a PUSH followed by a POP
(spec/41_load16_stack.md); ADC, SBC and DAA (spec/42_alu8.md); RETI (spec/45_control_flow.md); HALT, STOP, DI and EI
(spec/46_cpu_control.md); and the instructions that leave F alone (spec/10_state.md, section 3).
-/
open Sys2Proof Sys2Proof.Machine Sys2Proof.Stated

namespace Sys2Proof.Machine

/-- `SP + e` and its flags in the integers of the rule (R163, R203). -/
theorem addSpResult_eq (sp : Word) (e : Byte) :
    addSpResult sp e = (BitVec.ofInt 16 (sp.toNat + e.toInt),
      ⟨false, false, decide (sp.toNat % 16 + e.toNat % 16 > 0xF), decide (sp.toNat % 256 + e.toNat > 0xFF)⟩) := by
  have hnibble : sp.toNat % 256 % 16 = sp.toNat % 16 := Nat.mod_mod_of_dvd _ (by decide)
  simp only [addSpResult, add_sext16, halfAdd8_eq, carryAdd8, loByte_toNat, carryIn, hnibble]
  rfl

/-- The two parts of a decimal adjustment share no bit, so that they may be put together or added (R185). -/
theorem daaAdjustment_eq (low high : Bool) :
    ((if low then 0x06 else 0) ||| (if high then 0x60 else 0) : Byte) =
      BitVec.ofNat 8 ((if low then 0x06 else 0) + (if high then 0x60 else 0)) := by
  cases low <;> cases high <;> rfl

theorem daaAdjustment_le (low high : Bool) : (if low then 0x06 else 0) + (if high then 0x60 else 0) ≤ 256 := by
  cases low <;> cases high <;> decide

@[simp] theorem State.memRead_returnFromInterrupt (s : State) (a : Word) :
    s.returnFromInterrupt.memRead a = s.memRead a := rfl

@[simp] theorem State.cyclesOf_returnFromInterrupt (s : State) (op n : Nat) (taken : Bool) :
    s.returnFromInterrupt.cyclesOf op taken n = s.cyclesOf op taken n := rfl

@[simp] theorem State.cyclesOf_setIme (s : State) (b : Bool) (op n : Nat) (taken : Bool) :
    State.cyclesOf { s with ime := b } op taken n = s.cyclesOf op taken n := rfl

/-- Bits 3 to 0 of a byte that has none of them are not missed (R23). -/
theorem and_high_nibble_of_low {b : Byte} (h : b &&& 0x0F = 0) : b &&& 0xF0 = b := by
  revert b
  decide

end Sys2Proof.Machine

namespace Sys2Proof.Stated

/-- The decimal adjustment of the model, in the integers of the rule (R185). -/
theorem daaResult_eq (a : Byte) (fl : Flags) :
    daaResult a fl = ((daaValue a fl.n fl.h fl.c).1,
      ⟨decide ((daaValue a fl.n fl.h fl.c).1 = 0), fl.n, false, (daaValue a fl.n fl.h fl.c).2⟩) := by
  have hadd (k : Nat) : a + BitVec.ofNat 8 k = BitVec.ofNat 8 ((a.toNat + k) % 256) :=
    BitVec.eq_of_toNat_eq (by simp)
  have hsub (k : Nat) (hk : k ≤ 256) : a - BitVec.ofNat 8 k = BitVec.ofNat 8 ((a.toNat + 256 - k) % 256) := by
    apply BitVec.eq_of_toNat_eq
    simp only [BitVec.toNat_sub, BitVec.toNat_ofNat]
    omega
  obtain ⟨z, n, h, c⟩ := fl
  cases n with
  | false =>
    simp only [daaResult, daaValue, if_true, daaAdjustment_eq, and_low_nibble, hadd, Bool.false_eq_true, if_false]
  | true =>
    simp only [daaResult, daaValue, if_true, daaAdjustment_eq, hsub _ (daaAdjustment_le _ _), Bool.true_eq_false,
      if_false]

/-- A store to memory that keeps it puts the byte at both addresses that name it (R62, R63). -/
theorem busAfter_of_kept {cfg : Config} {bus : Word → Byte} {addr : Word} {v : Byte} (hrom : 0x8000 ≤ addr.toNat)
    (hdiv : addr ≠ 0xFF04) (a : Word) :
    busAfter cfg bus addr v a = if underEcho a = underEcho addr then v else bus a := by
  have hnotrom : ¬ addr.toNat ≤ 0x7FFF := by omega
  rw [busAfter, if_neg (hnotrom ∘ And.left), if_neg (hdiv ∘ And.left)]

/-- Neighbouring addresses name different bytes, as the echo lies 0x2000 off (R63, R64). -/
theorem underEcho_sub_one_ne (a : Word) : underEcho (a - 1) ≠ underEcho (a - 2) := by
  rw [underEcho_eq, underEcho_eq, Ne, ← BitVec.toNat_inj, backing_toNat, backing_toNat]
  split <;> split <;> bv_omega

/-- The two bytes pushed stand at the new SP, where the memory there keeps them: the second store goes to another byte
than the first. -/
theorem Pushes.memRead {s t : State} {hi lo : Byte} (h : Pushes s t hi lo)
    (hkeep : ∀ a ∈ [s.sp - 1, s.sp - 2], 0x8000 ≤ a.toNat ∧ a ≠ 0xFF04) :
    t.memRead (t.sp + 1) = hi ∧ t.memRead t.sp = lo := by
  obtain ⟨hsp, hbus, -⟩ := h
  obtain ⟨hrom, hdiv⟩ := hkeep (s.sp - 1) (.head _)
  obtain ⟨hrom', hdiv'⟩ := hkeep (s.sp - 2) (.tail _ (.head _))
  have hnext : s.sp - 2 + 1 = s.sp - 1 := by bv_omega
  rw [hsp, hnext, hbus, hbus, busAfter_of_kept hrom' hdiv', busAfter_of_kept hrom' hdiv', busAfter_of_kept hrom hdiv,
    if_neg (underEcho_sub_one_ne _), if_pos rfl, if_pos rfl]
  exact ⟨rfl, rfl⟩

end Sys2Proof.Stated

namespace Sys2Proof.Proofs

/-! ### The stack -/

/-- Settles O8: both forms put `addSpResult` in place, in HL and in SP. -/
theorem stackPointerPlusDisplacement : Obligations.StackPointerPlusDisplacement := by
  intro e s
  have hhl := exec_writeHl (i := .ld_HL_SPe e) (s := s) (r := addSpResult s.sp e) rfl rfl rfl rfl
  have hrun : (Shape.addSp 0xE8 e).run s =
      .next ((State.setFlags { s.fetched 2 with sp := (addSpResult s.sp e).1 } (addSpResult s.sp e).2).spend 0xE8 4) :=
    rfl
  rw [addSpResult_eq] at hhl hrun
  obtain ⟨t, ht, hword, hflags, hregs, hsp, hrest⟩ := hhl
  refine ⟨⟨rfl, rfl⟩, ⟨t, ht, hword, hsp, hregs, hflags, hrest⟩, _, exec_of_shapeOf rfl hrun, rfl, ?_,
    .intro rfl rfl rfl rfl rfl, .intro rfl rfl rfl rfl rfl rfl rfl rfl, Shape.ranThrough hrun rfl rfl rfl⟩
  exact .intro rfl rfl rfl rfl rfl rfl rfl _

/-- Settles O11: POP takes off the bytes that PUSH left at SP, and F has no low nibble to lose. -/
theorem pushThenPopReturnsPair : Obligations.PushThenPopReturnsPair := by
  intro p q s hwf hf hkeep
  obtain ⟨-, t, ht, hpush, -⟩ := pushPair p s hwf
  obtain ⟨-, u, hu, ⟨husp, -⟩, hhigh, hlow, -⟩ := popPair q t
  obtain ⟨hreadhi, hreadlo⟩ := hpush.memRead hkeep
  rw [hreadhi] at hhigh
  rw [hreadlo] at hlow
  refine ⟨t, u, ht, hu, ?_, hhigh, hlow, ?_⟩
  · rw [husp, hpush.1]
    bv_omega
  · rintro rfl
    rw [hlow]
    split
    case isTrue haf =>
      subst haf
      exact and_high_nibble_of_low hf
    case isFalse => rfl

/-! ### ADC, SBC and DAA -/

/-- Settles O13: the two are among the accumulator operations. -/
theorem addAndSubtractWithCarry : Obligations.AddAndSubtractWithCarry := ⟨aluRuns .adc, aluRuns .sbc⟩

/-- Settles O15: `daaResult` of A and the flags goes to A and the flags. -/
theorem decimalAdjust : Obligations.DecimalAdjust := by
  intro s
  have hdaa := exec_writeA (i := .daa) (s := s) (v := (daaResult s.a s.flags).1) (fl := (daaResult s.a s.flags).2)
    rfl rfl rfl rfl
  rw [daaResult_eq] at hdaa
  exact ⟨rfl, hdaa⟩

/-! ### RETI and the CPU control instructions -/

/-- Settles O26: RETI pops PC, sets IME and writes nothing else. -/
theorem returnFromInterrupt : Obligations.ReturnFromInterrupt := by
  intro s
  have hrun : Shape.reti.run s = .next ((s.fetched 1).returnFromInterrupt.spend 0xD9 4) := rfl
  refine ⟨rfl, _, exec_of_shapeOf rfl hrun, by simp [State.popped, wordOf], ⟨by simp, fun a => by simp, by simp⟩,
    by simp, ?_, by simp, ?_⟩
  · apply RegsKept.intro <;> simp
  · apply Ran.intro <;> simp

/-- HALT with IME 1, or with nothing pending, halts (R261). -/
theorem exec_halt_of_not_pending {s : State} (h : ¬(s.ime = false ∧ s.pending ≠ 0)) :
    exec .halt s = .next (State.spend { s.fetched 1 with halted := true } 0x76 1) := by
  have hhalt : (s.fetched 1).haltNow = { s.fetched 1 with halted := true } := if_neg h
  rw [← hhalt]
  rfl

/-- Settles O29: both branches of HALT write one latch after the fetch. -/
theorem haltHaltsOrArmsHaltBug : Obligations.HaltHaltsOrArmsHaltBug := by
  intro s
  have hpending : s.memRead 0xFF0F &&& s.memRead 0xFFFF &&& 0x1F = s.pending := rfl
  rw [hpending]
  refine ⟨rfl, ?_⟩
  by_cases h : s.ime = false ∧ s.pending ≠ 0
  · refine ⟨_, exec_halt_of_pending h.1 h.2, (pcPast_eq s 1).symm, .intro rfl rfl rfl rfl rfl rfl rfl _, rfl, rfl,
      .intro rfl rfl rfl rfl rfl rfl rfl rfl, (if_pos h).mpr ⟨rfl, ?_⟩⟩
    exact .intro rfl rfl rfl rfl rfl rfl rfl rfl rfl
  · refine ⟨_, exec_halt_of_not_pending h, (pcPast_eq s 1).symm, .intro rfl rfl rfl rfl rfl rfl rfl _, rfl, rfl,
      .intro rfl rfl rfl rfl rfl rfl rfl rfl, (if_neg h).mpr ⟨rfl, ?_⟩⟩
    exact .intro rfl rfl rfl rfl rfl rfl rfl rfl rfl

/-- Settles O30: each of the three writes its own part of the hidden state after the fetch of its byte. -/
theorem stopAndInterruptEnable : Obligations.StopAndInterruptEnable := by
  intro s
  refine ⟨⟨rfl, _, rfl, (pcPast_eq s 1).symm, rfl, ?_⟩, ⟨rfl, _, rfl, (pcPast_eq s 1).symm, rfl, rfl, ?_⟩,
    ⟨rfl, _, rfl, (pcPast_eq s 1).symm, rfl, rfl, ?_⟩⟩
  all_goals
    exact ⟨.intro rfl rfl rfl rfl rfl rfl rfl _, rfl, rfl, .intro rfl rfl rfl rfl rfl rfl rfl rfl,
      .intro rfl rfl rfl rfl rfl rfl rfl rfl rfl⟩

/-! ### F -/

/-- Which instruction has a shape that writes F, by the names of the table of R26; no constraint for the other
shapes. -/
def FlagWriter : Shape → Instr → Prop
  | .alu _ k x, i => i = aluI k x
  | .incPlace _ x, i => i = incI x
  | .decPlace _ x, i => i = decI x
  | .addHl _ p, i => i = addHlI p
  | .rotatePlace _ k x, i => i = rotI k x
  | .testBit _ b x, i => i = bitI b x
  | .addSp _ e, i => i = .add_SP_e e
  | .ldHlSp _ e, i => i = .ld_HL_SPe e
  | .accFlags .., i | .rotateAcc .., i | .popPair _ .af, i | .cb, i =>
    i ∈ [.daa, .cpl, .scf, .ccf, .rlca, .rrca, .rla, .rra, .pop_AF, .cbPrefix]
  | _, _ => True

theorem flagWriter_shapeOf (i : Instr) : FlagWriter (shapeOf i) i := by
  cases i
  case daa | cpl | scf | ccf | rlca | rrca | rla | rra | pop_AF | cbPrefix => simp [FlagWriter, shapeOf]
  all_goals first | exact trivial | exact rfl

/-- Settles O58: a shape that writes F belongs to the flag writers, and every other one leaves F as it was. -/
theorem otherInstructionsKeepFlags : Obligations.OtherInstructionsKeepFlags := by
  intro i s t hnot h
  have hwriter := flagWriter_shapeOf i
  rw [exec_eq_run] at h
  generalize shapeOf i = k at hwriter h
  simp only [WritesFlags, not_or, not_exists] at hnot
  obtain ⟨halu, hinc, hdec, haddHl, hrot, hbit, haddSp, hldHlSp, hothers⟩ := hnot
  cases k
  case alu k x => exact absurd hwriter (halu k x)
  case incPlace x => exact absurd hwriter (hinc x)
  case decPlace x => exact absurd hwriter (hdec x)
  case addHl p => exact absurd hwriter (haddHl p)
  case rotatePlace k x => exact absurd hwriter (hrot k x)
  case testBit b x => exact absurd hwriter (hbit b x)
  case addSp e => exact absurd hwriter (haddSp e)
  case ldHlSp e => exact absurd hwriter (hldHlSp e)
  case accFlags | rotateAcc | cb => exact absurd hwriter hothers
  case popPair op p =>
    have hp : p ≠ .af := by
      rintro rfl
      exact hothers hwriter
    obtain rfl := Host.Outcome.next.inj h
    exact State.f_setStackReg_of_ne _ _ hp
  case jumpIf | relativeIf | callIf | returnIf =>
    simp only [Shape.run, jumpIf, relativeIf, callIf, returnIf] at h
    split at h <;> obtain rfl := Host.Outcome.next.inj h <;> simp
  case ldMnnSp =>
    obtain rfl := Host.Outcome.next.inj h
    simp [State.memWrite16]
  all_goals
    obtain rfl := Host.Outcome.next.inj h
    simp

end Sys2Proof.Proofs
end

section
/-!
PROOFS. The timer's TIMA part and its account of cycles (spec/60_exceptions.md, section 4), the write path and the
control registers on the bus (spec/20_memory.md, section 1; spec/10_state.md, section 5), reset and loading
(spec/70_reset_and_hazards.md, section 1; spec/20_memory.md, section 2), and what the environment and a debugger may
change (spec/20_memory.md, section 6).
-/
open Sys2Proof Sys2Proof.Machine Sys2Proof.Stated

namespace Sys2Proof.Proofs

/-! ### Timer -/

/-- Past 0xFF TIMA is reloaded and the request is raised (R302). -/
theorem timaTick_of_full {s : State} (h : s.tima = 0xFF) :
    s.timaTick = { s with tima := s.tma, iflag := s.iflag ||| 0x04 } := if_pos h

theorem timaTick_of_not_full {s : State} (h : s.tima ≠ 0xFF) : s.timaTick = { s with tima := s.tima + 1 } := if_neg h

/-- With as many turns as the counter has cycles, the loop of R302 leaves the counter's remainder by the period and
makes as many increments of TIMA as the quotient says. -/
theorem timaTicks_eq_timaLoop {p : Nat} (hp : 0 < p) (fuel counter : Nat) (h : counter ≤ fuel) (s : State) :
    State.timaTicks { s with timaCounter := counter % p } (counter / p) =
      { s with
        timaCounter := (timaLoop p s.tma fuel counter s.tima s.iflag).1
        tima := (timaLoop p s.tma fuel counter s.tima s.iflag).2.1
        iflag := (timaLoop p s.tma fuel counter s.tima s.iflag).2.2 } := by
  induction fuel generalizing counter s with
  | zero =>
    obtain rfl := Nat.le_zero.1 h
    simp [timaLoop, State.timaTicks]
  | succ fuel ih =>
    unfold timaLoop
    split
    case isTrue hge =>
      have hmod : counter % p = (counter - p) % p := Nat.mod_eq_sub_mod hge
      have hdiv : counter / p = (counter - p) / p + 1 := Nat.div_eq_sub_div hp hge
      rw [hmod, hdiv, State.timaTicks]
      have hnext := ih (counter - p) (by omega) s.timaTick
      by_cases hff : s.tima = 0xFF
      · rw [timaTick_of_full hff] at hnext
        rw [if_pos hff, timaTick_of_full (s := { s with timaCounter := (counter - p) % p }) hff]
        exact hnext
      · rw [timaTick_of_not_full hff] at hnext
        rw [if_neg hff, timaTick_of_not_full (s := { s with timaCounter := (counter - p) % p }) hff]
        exact hnext
    case isFalse hlt =>
      rw [Nat.mod_eq_of_lt (by omega), Nat.div_eq_of_lt (by omega)]
      rfl

/-- Settles O47: the TIMA part of the model against the loop, while enabled. -/
theorem timaAdvanceIsTheLoop : Obligations.TimaAdvanceIsTheLoop := by
  intro s n fuel h
  rw [period_eq]
  unfold State.advanceTima State.timerEnabled
  by_cases hen : s.tac.getLsbD 2 = true
  · rw [if_pos hen, if_pos hen]
    exact timaTicks_eq_timaLoop (timaPeriod_pos s.tac) fuel _ h s
  · rw [if_neg hen, if_neg hen]

/-- A sequence of advances moves DIV and its accumulator as one advance by the total does (R303). -/
theorem div_of_advances (ns : List Nat) (s : State) (hs : s.divCounter < 64) :
    (ns.foldl State.timerAdvance s).div = s.div + BitVec.ofNat 8 ((s.divCounter + ns.sum) / 64) ∧
      (ns.foldl State.timerAdvance s).divCounter = (s.divCounter + ns.sum) % 64 := by
  induction ns generalizing s with
  | nil => simp [Nat.div_eq_of_lt hs, Nat.mod_eq_of_lt hs]
  | cons n ns ih =>
    obtain ⟨hdiv, hcounter⟩ := ih (s.timerAdvance n) (by simpa using Nat.mod_lt _ (by decide))
    rw [List.foldl_cons, List.sum_cons, hdiv, hcounter, State.timerAdvance_div, State.timerAdvance_divCounter,
      BitVec.add_assoc, ← BitVec.ofNat_add]
    refine ⟨congrArg (s.div + BitVec.ofNat 8 ·) ?_, ?_⟩ <;> omega

/-- Settles O48: the account of DIV over the sequence, and the bounds after one more advance. -/
theorem timerLosesNoCycles : Obligations.TimerLosesNoCycles := by
  intro s ns t
  refine ⟨div_of_advances ns s, fun n => ⟨?_, fun hen => ?_⟩⟩
  · rw [State.timerAdvance_divCounter]
    exact Nat.mod_lt _ (by decide)
  · rw [State.timaCounter_timerAdvance, if_pos hen, period_eq]
    exact Nat.mod_lt _ (timaPeriod_pos _)

/-! ### The bus -/

/-- Settles O51: the store reads as the statements say, and the write path reaches no register outside the bus. -/
theorem storeFollowsTheWritePath : Obligations.StoreFollowsTheWritePath := by
  intro s a v hwf
  refine ⟨.intro (x := s) hwf (fun _ => rfl) rfl rfl (fun _ => rfl) rfl rfl, s.wf_memWrite hwf a v,
    fun r _ => by simp, ?_⟩
  simp

/-- Settles O52: the homes of the six addresses, none of them in ROM, and DIV alone behind a guard. -/
theorem registersStandOnTheBus : Obligations.RegistersStandOnTheBus := by
  intro s v
  refine ⟨rfl, rfl, rfl, rfl, rfl, rfl, rfl, rfl, rfl, rfl, rfl, rfl, ?_⟩
  unfold State.memWrite
  cases s.cfg.divWriteResets <;> rfl

/-! ### Loading and reset -/

/-- A ROM address shares its byte with no other (R64). -/
theorem backing_rom_eq_iff {i : Nat} (hi : i < 0x8000) (a : Word) :
    backing (BitVec.ofNat 16 i) = backing a ↔ i = a.toNat := by
  rw [← BitVec.toNat_inj, backing_toNat, backing_toNat, BitVec.toNat_ofNat]
  have ha : a.toNat < 65536 := a.isLt
  split <;> split <;> omega

theorem getD_take_of_lt (bytes : List Byte) {i n : Nat} (h : i < n) : (bytes.take n).getD i 0 = bytes.getD i 0 := by
  rw [List.getD_eq_getElem?_getD, List.getD_eq_getElem?_getD, List.getElem?_take_of_lt h]

/-- Settles O54: the run of bytes from address 0 is cut at the window, and no two of its addresses name one byte. -/
theorem loadedImageIsReadBack : Obligations.LoadedImageIsReadBack := by
  intro s image a hwf
  have hlen : (image.take 0x8000).length = min 0x8000 image.length := List.length_take
  have hzero (i : Nat) : (0x0000 : Word) + BitVec.ofNat 16 i = BitVec.ofNat 16 i := BitVec.zero_add _
  split
  case isTrue h =>
    have hat := memRead_loadBytes_at s hwf 0x0000 (image.take 0x8000) a.toNat (by omega) fun j hj hlt => by
      rw [hzero, hzero, Ne, backing_rom_eq_iff (by omega), BitVec.toNat_ofNat]
      omega
    rw [hzero, BitVec.ofNat_toNat, BitVec.setWidth_eq] at hat
    exact hat.trans (getD_take_of_lt image h.1)
  case isFalse h =>
    refine memRead_loadBytes_off s hwf 0x0000 (image.take 0x8000) a fun i hi => ?_
    rw [hzero, Ne, backing_rom_eq_iff (by omega)]
    omega

/-- Writing IE changes the byte at 0xFFFF alone (R30). -/
theorem memRead_setIe {s : State} (hwf : Memory.wf s.mem) (v : Byte) (a : Word) :
    State.memRead { s with ie := v } a = if a = 0xFFFF then v else s.memRead a := by
  have hwrite : { s with ie := v } = s.rawWrite 0xFFFF v := rfl
  have hback := backing_eq_iff_of_high (x := 0xFFFF) (by decide) a
  rw [hwrite, State.memRead, State.rawRead_rawWrite s hwf]
  simp only [hback]
  rfl

/-- The state of `State.hostReset` before IE is set. -/
def loaded (s : State) (l : Launch) : State :=
  (State.loadCells { State.reset with cfg := s.cfg, env := s.env } l.memInit).loadBytes 0xFF00 (l.ioImage.take 128)

/-- The two loads reach the bus only. -/
theorem loaded_only (s : State) (l : Launch) :
    BusOnly { State.reset with cfg := s.cfg, env := s.env } (loaded s l) :=
  (loadCells_only _ l.memInit).trans (loadBytes_only _ _ _)

theorem wf_loadCells_reset (s : State) (l : Launch) :
    Memory.wf (State.loadCells { State.reset with cfg := s.cfg, env := s.env } l.memInit).mem :=
  (loadCells_only _ l.memInit).memory Memory.wf_nil

theorem ioAddress_eq (i : Nat) : (0xFF00 : Word) + BitVec.ofNat 16 i = BitVec.ofNat 16 (0xFF00 + i) :=
  (BitVec.ofNat_add _ _).symm

/-- Byte `i` of the I/O image stands at 0xFF00 + `i`. -/
theorem memRead_loaded_io (s : State) (l : Launch) {i : Nat} (hi : i < 128) (hlen : i < l.ioImage.length) :
    (loaded s l).memRead (BitVec.ofNat 16 (0xFF00 + i)) = l.ioImage.getD i 0 := by
  have htake : (l.ioImage.take 128).length = min 128 l.ioImage.length := List.length_take
  rw [← ioAddress_eq, loaded, memRead_loadBytes_at _ (wf_loadCells_reset s l) _ _ i (by omega), getD_take_of_lt _ hi]
  intro j hij hj
  rw [Ne, backing_eq_iff_of_high (by bv_omega)]
  bv_omega

/-- A byte that the I/O image does not reach is the last one that MEM_INIT gives, or that of reset. -/
theorem memRead_loaded_off (s : State) (l : Launch) {a : Word}
    (hoff : ∀ i, i < 128 → i < l.ioImage.length → a ≠ BitVec.ofNat 16 (0xFF00 + i)) :
    (loaded s l).memRead a = (lastGiven l.memInit a).getD (State.reset.memRead a) := by
  have htake : (l.ioImage.take 128).length = min 128 l.ioImage.length := List.length_take
  rw [loaded, memRead_loadBytes_off _ (wf_loadCells_reset s l), memRead_loadCells _ Memory.wf_nil]
  · rfl
  · intro i hi hback
    refine hoff i (by omega) (by omega) ?_
    rwa [eq_comm, backing_eq_iff_of_high (by bv_omega), ioAddress_eq] at hback

/-- Settles O53: reset puts every field in place, the two loads reach the bus only, and IE is set last. -/
theorem resetLeavesRegisterValues : Obligations.ResetLeavesRegisterValues := by
  refine ⟨fun s l => ?_, rfl⟩
  obtain ⟨hmem, hrest⟩ := loaded_only s l
  have hwf : Memory.wf (loaded s l).mem := hmem Memory.wf_nil
  have hbyte (a) : (s.hostReset l).memRead a = if a = 0xFFFF then l.ieReset else (loaded s l).memRead a :=
    memRead_setIe hwf l.ieReset a
  refine ⟨⟨congrArg State.a hrest, congrArg State.f hrest, congrArg State.b hrest, congrArg State.c hrest,
      congrArg State.d hrest, congrArg State.e hrest, congrArg State.h hrest, congrArg State.l hrest⟩,
    congrArg State.sp hrest, congrArg State.pc hrest, congrArg State.ime hrest, congrArg State.eiPending hrest,
    congrArg State.halted hrest, congrArg State.haltBug hrest, congrArg State.divCounter hrest,
    congrArg State.timaCounter hrest, congrArg State.runState hrest, (congrArg State.cfg hrest :),
    (congrArg State.env hrest :), hwf, rfl, fun i hi hlen => ?_, fun a hie hoff => ?_⟩
  · rw [hbyte, if_neg (by bv_omega)]
    exact memRead_loaded_io s l hi hlen
  · rw [hbyte, if_neg hie]
    exact memRead_loaded_off s l hoff

/-! ### Moves from outside -/

/-- A move of the environment leaves every byte outside the I/O block, and DIV, TIMA, TMA and TAC, as it was (R92). -/
theorem memRead_envMove_off {s : State} (hwf : Memory.wf s.mem) (m : EnvMove) {b : Word}
    (hb : b.toNat < 0xFF00 ∨ 0xFF7F < b.toNat ∨ b ∈ ([0xFF04, 0xFF05, 0xFF06, 0xFF07] : List Word)) :
    (s.envMove m).memRead b = s.memRead b := by
  cases m with
  | raise m =>
    have hne : b ≠ 0xFF0F := by
      rintro rfl
      revert hb
      decide
    have hwrite : s.envMove (.raise m) = s.rawWrite 0xFF0F (s.iflag ||| (m &&& 0x1B)) := rfl
    have hback := backing_eq_iff_of_high (x := 0xFF0F) (by decide) b
    rw [hwrite, State.memRead, State.rawRead_rawWrite s hwf, if_neg (hne ∘ hback.1), State.memRead]
  | setIo offset v =>
    rw [State.memRead_setIo s hwf, if_neg]
    rintro ⟨hlt, hnot, rfl⟩
    have hoff : (BitVec.ofNat 16 (0xFF00 + offset)).toNat = 0xFF00 + offset := by
      rw [BitVec.toNat_ofNat]
      omega
    simp only [List.mem_cons, List.not_mem_nil, or_false, ← BitVec.toNat_inj, hoff] at hb hnot
    simp at hb
    omega

theorem memRead_envMoves_off (ms : List EnvMove) {s : State} (hwf : Memory.wf s.mem) {b : Word}
    (hb : b.toNat < 0xFF00 ∨ 0xFF7F < b.toNat ∨ b ∈ ([0xFF04, 0xFF05, 0xFF06, 0xFF07] : List Word)) :
    (ms.foldl State.envMove s).memRead b = s.memRead b := by
  induction ms generalizing s with
  | nil => rfl
  | cons m ms ih =>
    rw [List.foldl_cons, ih ((envMove_only s m).1.memory hwf), memRead_envMove_off hwf m hb]

theorem memRead_environment_off {s : State} (hwf : Memory.wf s.mem) {b : Word}
    (hb : b.toNat < 0xFF00 ∨ 0xFF7F < b.toNat ∨ b ∈ ([0xFF04, 0xFF05, 0xFF06, 0xFF07] : List Word)) :
    s.environment.memRead b = s.memRead b := by
  cases henv : s.env with
  | nil => rw [environment_nil henv]
  | cons moves later =>
    rw [environment_cons henv]
    exact memRead_envMoves_off (s := { s with env := later }) moves hwf hb

/-- Settles O55: one move, the moves before a step, and a debugger's patches, each by what it may change. -/
theorem outsideMovesAreConfined : Obligations.OutsideMovesAreConfined := by
  intro s
  refine ⟨fun m => rfl, fun offset v hwf => ?_, environment_nil, fun _ _ => environment_cons, fun hwf => ?_,
    fun ps hwf hf => ?_⟩
  · obtain ⟨⟨hmem, hrest⟩, henv⟩ := envMove_only s (.setIo offset v)
    rw [henv] at hrest
    exact ⟨hmem hwf, hrest, s.memRead_setIo hwf offset v⟩
  · obtain ⟨⟨hmem, hrest⟩, henv⟩ := environment_only s
    rw [henv] at hrest
    exact ⟨hmem hwf, hrest, fun b hb => memRead_environment_off hwf hb⟩
  · obtain ⟨hmem, hflag, hrun, hcycles, hcfg, henv⟩ := patches_only ps s
    exact ⟨hmem hwf, hflag hf, hrun, hcycles, hcfg, henv⟩

end Sys2Proof.Proofs
end
